-- ==== Sys2Proof/Word.lean ====
section
/-! DEFINITION. The word types of the substrate (00_scope.md R7, 30_encoding.md R90). -/

namespace Sys2Proof

/-- An operation word, 32 bits (R90). -/
abbrev Word := BitVec 32

/-- A byte: handler identifier, data byte, status code, task identifier (R7, R94). -/
abbrev Byte := BitVec 8

/-- A number of ticks, `u16` (R7). -/
abbrev Ticks := BitVec 16

/-- A 7-bit slave address (R7). -/
abbrev SlaveAddr := BitVec 7

end Sys2Proof
end

