-- ==== Sys2Proof/Syntax.lean ====
section
/-! DEFINITION. The 14 operations of spec/opcode_table.json (30_encoding.md R92), with the operand fields of R91 and R93. -/

namespace Sys2Proof

/-- One constructor per row of the operation map. `rw` is the direction bit of format XR: `false` is 0, a write. -/
inductive Instr where
  | csEnter
  | csExit (t : Bool)
  | wait
  | run
  | schedTask (h : Byte) (delay : Ticks)
  | unschedTask (id : Byte)
  | schedPoll
  | tick
  | i2cReq (addr : SlaveAddr) (rw : Bool) (h : Byte)
  | i2cReqi (addr : SlaveAddr) (rw : Bool) (h : Byte)
  | i2cNack
  | i2cTx (data : Byte)
  | i2cPoll
  | i2cEvent (code : Byte) (data : Byte)
  deriving DecidableEq, Repr

end Sys2Proof
end

