-- ==== Sys2Proof/WellFormed.lean ====
section
/-! DEFINITION. What the assembler and the program checks admit (30_encoding.md R108; 41_critical_section.md R126;
70_reset_and_hazards.md R331). None of them is needed to encode or decode: every `Instr` has a word, and a word outside
these ranges faults when it runs. -/

namespace Sys2Proof

/-- The operand ranges of R108: a handler is 1..255, a delay 1..65535, a task id 0..`maxTasks`-1. -/
def Instr.wf (maxTasks : Nat) : Instr → Bool
  | .csEnter => true
  | .csExit _ => true
  | .wait => true
  | .run => true
  | .schedTask h delay => h != 0 && delay != 0
  | .unschedTask id => decide (id.toNat < maxTasks)
  | .schedPoll => true
  | .tick => true
  | .i2cReq _ _ h => h != 0
  | .i2cReqi _ _ h => h != 0
  | .i2cNack => true
  | .i2cTx _ => true
  | .i2cPoll => true
  | .i2cEvent _ _ => true

/-- The pairing check of R126 on a straight-line program: `i` is the interrupt flag before it and `opened` the
tokens of the brackets open so far, innermost first. An exit closes the innermost bracket when it gives back that
bracket's token; any other exit closes none (`ei` is such an exit, R109, R122). `enables` is whether the program's context
may issue `CS_EXIT 1`; where it may not, that exit leaves `I` as it is (R123). DESIGN CHOICE (log 11): the whole text
counts, what follows an operation that faults when it runs as well. -/
def pairedFrom (enables i : Bool) (opened : List Bool) : List Instr → Bool
  | [] => opened.isEmpty
  | .csEnter :: rest => pairedFrom enables false (i :: opened) rest
  | .csExit t :: rest =>
    pairedFrom enables (if enables || !t then t else i) (match opened with
      | token :: outer => if token = t then outer else opened
      | [] => []) rest
  | _ :: rest => pairedFrom enables i opened rest

/-- The interrupt flag after a straight-line program that starts with `i`, in a context that may issue its enters and
exits (R120, R122). The whole text counts, as in `pairedFrom` (log 11). -/
def flagAfter (i : Bool) : List Instr → Bool
  | [] => i
  | .csEnter :: rest => flagAfter false rest
  | .csExit t :: rest => flagAfter t rest
  | _ :: rest => flagAfter i rest

end Sys2Proof
end

