-- ==== Sys2Proof/Decode.lean ====
section
/-! DEFINITION. The decoder and the encoder of the operation word (30_encoding.md R90 to R93, R101, R102). -/

namespace Sys2Proof

/-- Why a word is no operation (R101, checks 1 and 2). -/
inductive DecodeError where
  | illegalOpcode
  | reservedNonzero
  deriving DecidableEq, Repr

/-- The operation formats of R91. -/
inductive Format where
  | n | csx | st | ut | xr | byt | ev
  deriving DecidableEq, Repr

/-- The reserved bits of a format, which must be 0 (R91). -/
def Format.reservedMask : Format → Word
  | .n => 0x07FFFFFF#32
  | .csx => 0x07FFFFFE#32
  | .st => 0x07000000#32
  | .ut => 0x07FFFF00#32
  | .xr => 0x0700FF00#32
  | .byt => 0x07FFFF00#32
  | .ev => 0x07FF0000#32

/-- `OPC = w[31:27]` (R91). -/
def opcOf (w : Word) : BitVec 5 := w.extractLsb' 27 5

/-- The operation map: the format of an assigned `OPC`, none for an unassigned one (R92). -/
def formatOf (opc : BitVec 5) : Option Format :=
  match opc.toNat with
  | 0x01 => some .n
  | 0x02 => some .csx
  | 0x03 => some .n
  | 0x04 => some .n
  | 0x08 => some .st
  | 0x09 => some .ut
  | 0x0A => some .n
  | 0x0B => some .n
  | 0x10 => some .xr
  | 0x11 => some .xr
  | 0x12 => some .n
  | 0x13 => some .byt
  | 0x14 => some .n
  | 0x15 => some .ev
  | _ => none

/-- Field `H = w[23:16]`. -/
def fieldH (w : Word) : Byte := w.extractLsb' 16 8
/-- Field `DELAY = w[15:0]`. -/
def fieldDelay (w : Word) : Ticks := w.extractLsb' 0 16
/-- Fields `ID` and `DATA`, `w[7:0]`. -/
def fieldLow (w : Word) : Byte := w.extractLsb' 0 8
/-- Field `CODE = w[15:8]`. -/
def fieldCode (w : Word) : Byte := w.extractLsb' 8 8
/-- Field `ADDR = w[7:1]`. -/
def fieldAddr (w : Word) : SlaveAddr := w.extractLsb' 1 7
/-- Fields `T` and `RW`, `w[0]`. -/
def fieldBit (w : Word) : Bool := w.getLsbD 0

/-- The operation of an assigned `OPC`, with its fields (R92, R93). -/
def build (w : Word) : Option Instr :=
  match (opcOf w).toNat with
  | 0x01 => some .csEnter
  | 0x02 => some (.csExit (fieldBit w))
  | 0x03 => some .wait
  | 0x04 => some .run
  | 0x08 => some (.schedTask (fieldH w) (fieldDelay w))
  | 0x09 => some (.unschedTask (fieldLow w))
  | 0x0A => some .schedPoll
  | 0x0B => some .tick
  | 0x10 => some (.i2cReq (fieldAddr w) (fieldBit w) (fieldH w))
  | 0x11 => some (.i2cReqi (fieldAddr w) (fieldBit w) (fieldH w))
  | 0x12 => some .i2cNack
  | 0x13 => some (.i2cTx (fieldLow w))
  | 0x14 => some .i2cPoll
  | 0x15 => some (.i2cEvent (fieldCode w) (fieldLow w))
  | _ => none

/-- Decode one operation word, total, in the order of checks of R101: the opcode, then the reserved bits. The
context check (3) and the operand checks (4) are the operation's own, in its meaning. -/
def decode (w : Word) : Except DecodeError Instr :=
  match formatOf (opcOf w) with
  | none => .error .illegalOpcode
  | some f =>
    if w &&& f.reservedMask = 0 then
      match build w with
      | some i => .ok i
      | none => .error .illegalOpcode
    else .error .reservedNonzero

/-- The operation word of an operation, as its rule writes it (R120, R122, R270, R150, R140, R143, R145, R147, R190,
R193, R196, R198, R200, R220). -/
def encode : Instr → Word
  | .csEnter => 0x08000000#32
  | .csExit t => 0x10000000#32 ||| (BitVec.ofBool t).setWidth 32
  | .wait => 0x18000000#32
  | .run => 0x20000000#32
  | .schedTask h delay => 0x40000000#32 ||| h.setWidth 32 <<< 16 ||| delay.setWidth 32
  | .unschedTask id => 0x48000000#32 ||| id.setWidth 32
  | .schedPoll => 0x50000000#32
  | .tick => 0x58000000#32
  | .i2cReq addr rw h =>
    0x80000000#32 ||| h.setWidth 32 <<< 16 ||| addr.setWidth 32 <<< 1 ||| (BitVec.ofBool rw).setWidth 32
  | .i2cReqi addr rw h =>
    0x88000000#32 ||| h.setWidth 32 <<< 16 ||| addr.setWidth 32 <<< 1 ||| (BitVec.ofBool rw).setWidth 32
  | .i2cNack => 0x90000000#32
  | .i2cTx data => 0x98000000#32 ||| data.setWidth 32
  | .i2cPoll => 0xA0000000#32
  | .i2cEvent code data => 0xA8000000#32 ||| code.setWidth 32 <<< 8 ||| data.setWidth 32

/-- The operations of a program's words, for the checks of a program before it runs (41_critical_section.md R126). A word
that decodes to none faults when it runs, and opens and closes no bracket. -/
def operations (ws : List Word) : List Instr :=
  ws.filterMap (fun w => match decode w with
    | .ok i => some i
    | .error _ => none)

/-- The word of an instruction given by its bits: `nbits` bits of `w`, every higher bit 0. An operation word is one
whole 32-bit value (20_memory.md R74), so there is no byte order to lay it out in. -/
def tableWord (nbits w : Nat) : Word := BitVec.ofNat 32 (w % 2 ^ nbits)

/-- What the decoder reads from a word numbered as spec/opcode_table.json numbers it. -/
def decodeTableWord (nbits w : Nat) : Option Instr :=
  match decode (tableWord nbits w) with
  | .ok i => some i
  | .error _ => none

end Sys2Proof
end

