-- ==== Sys2Proof/Machine/Types.lean ====
section
/-! DEFINITION. The named values the state is made of: contexts, phases, bus states, statuses, events, commands, wire
symbols, and the environment's moves (10_state.md; 30_encoding.md R103, R105, R106; 00_scope.md R13, R14). -/

namespace Sys2Proof.Machine

/-- Transfer statuses (30_encoding.md R105). -/
inductive Status where
  | transmitReady
  | receiveReady
  | byteTransmitted
  | byteReceived
  | transmitFailed
  | receiveFailed
  | nack
  | lastByteReceived
  deriving DecidableEq, Repr

/-- Context kinds (10_state.md R21). -/
inductive Ctx where
  | boot
  | poll
  | taskCb (slot : Nat)
  | xferCb (s : Status)
  | isrTick
  | isrI2c
  | isrOther
  deriving DecidableEq, Repr

/-- The poll engine's position (10_state.md R33). -/
inductive Phase where
  | clear
  | drain
  | scan
  | inHandler
  | passEnd
  | busPoll
  | sleepCheck
  | halted
  deriving DecidableEq, Repr

/-- The bus state machine's phase (10_state.md R38). -/
inductive BusState where
  | idle
  | slaW
  | slaR
  | slaWSent
  | slaRSent
  | write
  | read
  | closingRead
  deriving DecidableEq, Repr

/-- Bus events (30_encoding.md R103). -/
inductive BusEvent where
  | startSent
  | repStartSent
  | slaWAck
  | slaWNack
  | dataTxAck
  | dataTxNack
  | arbLost
  | slaRAck
  | slaRNack
  | dataRxAck
  | dataRxNack
  | busError
  | other (code : Byte)
  deriving DecidableEq, Repr

/-- Bus-controller commands (30_encoding.md R106). -/
inductive Cmd where
  | start
  | stop
  | send (b : Byte)
  | recvAck
  | recvNack
  deriving DecidableEq, Repr

/-- Wire actions (10_state.md R45): `S`, `Sr`, `W(b)`, `R(A)`, `R(N)`, `P`. -/
inductive WireSym where
  | s
  | sr
  | w (b : Byte)
  | rAck
  | rNack
  | p
  deriving DecidableEq, Repr

/-- Interrupt sources (60_exceptions.md R290). -/
inductive IrqSource where
  | tick
  | i2c
  | other
  deriving DecidableEq, Repr

/-- Fault codes (60_exceptions.md R281). -/
inductive FaultCode where
  | illegalOpcode
  | reservedNonzero
  | contextViolation
  | invalidDelay
  | invalidTaskId
  | nullHandler
  | spuriousBusEvent
  deriving DecidableEq, Repr

/-- Which events the controller may report (00_scope.md R6, 60_exceptions.md R304). -/
inductive ControllerMode where
  | any
  | conforming
  deriving DecidableEq, Repr

/-- What an operation returned to its issuer (30_encoding.md R95). -/
inductive Result where
  /-- "Other operations return nothing." -/
  | nothing
  /-- The token of `CS_ENTER`. -/
  | token (t : Bool)
  /-- `(OK, VAL)` of `SCHED_TASK`. -/
  | scheduled (ok : Bool) (val : Byte)
  /-- The Boolean of `I2C_REQ`. -/
  | accepted (ok : Bool)
  deriving DecidableEq, Repr

/-- A handler call made, for observation (70_reset_and_hazards.md R325). -/
inductive Call where
  | task (slot : Nat) (h : Byte)
  | xfer (h : Byte) (s : Status) (data : Byte)
  deriving DecidableEq, Repr

/-- One task slot (10_state.md R26 to R28); free iff `delay = 0`. -/
structure TaskSlot where
  delay : Ticks
  handler : Byte
  deriving DecidableEq, Repr

/-- One slot of the request ring (10_state.md R36); free iff `handler = 0`. -/
structure Request where
  addr : SlaveAddr
  tx : Bool
  handler : Byte
  deriving DecidableEq, Repr

/-- An open critical-section bracket: the height of the context stack where it was entered, and its token
(41_critical_section.md R126). -/
structure Bracket where
  height : Nat
  token : Bool
  deriving DecidableEq, Repr

/-- The boot program, or one call of a handler (10_state.md R52; log 1): the words it issues, in order; whether it then
returns (boot code does not, and a handler may not: 93_implementation_defined.md U12); and the answer of a task handler
and of a transfer handler. -/
structure Program where
  words : List Word
  returns : Bool
  delay : Ticks
  goOn : Bool
  deriving DecidableEq, Repr, Inhabited

/-- The environment's answers to what one step of the execution unit may ask: which pending interrupt is taken
(`IRQ_ORDER`), the value of `SLEEP_GATE()`, and the program of a context that takes its first step. A step reads those it
needs. -/
structure UnitDraw where
  irq : IrqSource
  gate : Bool
  prog : Program
  deriving DecidableEq, Repr

/-- Who takes the next step (00_scope.md R13, R14). -/
inductive Turn where
  | execUnit (d : UnitDraw)
  | tickTimer
  | otherDevice
  | controller (ev : BusEvent) (data : Byte)
  deriving DecidableEq, Repr, Inhabited

/-- A `STATUS_CODE_MAP`, a map from the controller's 8-bit status code to a bus event (00_scope.md R6; 30_encoding.md
R104): a table applied to the code under a mask; a code it does not name is `OTHER(CODE)`. With the mask 0xFF a table can
be any map. -/
structure StatusMap where
  mask : Byte
  rows : List (Byte × BusEvent)
  deriving DecidableEq, Repr

/-- The default map, a table applied to `CODE & 0xF8` (R104). -/
def defaultStatusMap : StatusMap where
  mask := 0xF8#8
  rows :=
    [(0x08#8, .startSent), (0x10#8, .repStartSent), (0x18#8, .slaWAck), (0x20#8, .slaWNack), (0x28#8, .dataTxAck),
     (0x30#8, .dataTxNack), (0x38#8, .arbLost), (0x40#8, .slaRAck), (0x48#8, .slaRNack), (0x50#8, .dataRxAck),
     (0x58#8, .dataRxNack), (0x00#8, .busError)]

/-- The parameters of 00_scope.md R6 that are data of a run and that no step writes. -/
structure Params where
  placeholderDelay : Ticks
  statusMap : StatusMap
  controllerMode : ControllerMode
  otherIsr : List Word
  deriving DecidableEq, Repr

end Sys2Proof.Machine
end

