-- ==== Sys2Proof/Config.lean ====
section
/-! DEFINITION. What an implementation fixes, and the free values (00_scope.md R6). -/

namespace Sys2Proof.Config

/-- DESIGN CHOICE (log 3): `MAX_TASKS` of the reset state, as in the common premises of 95_test_vectors.md. Every rule
reads the length of the task table, so a statement about every state holds for every value. -/
def maxTasks : Nat := 4

/-- DESIGN CHOICE (log 3): `MAX_TRANSFERS` of the reset state, likewise. -/
def maxTransfers : Nat := 4

/-- The parameters of the reset state: `PLACEHOLDER_DELAY` 0xFFFF (D9), the default `STATUS_CODE_MAP` (D5),
`CONTROLLER_MODE` ANY (D23), and, as a DESIGN CHOICE (log 3), the shortest legal `OTHER_ISR`, one `SCHED_POLL` word. -/
def params : Machine.Params :=
  { placeholderDelay := 0xFFFF#16, statusMap := Machine.defaultStatusMap, controllerMode := .any,
    otherIsr := [0x50000000#32] }

/-- `TICK_PERIOD`: open, read by no rule (D8). -/
opaque tickPeriod : Nat

/-- `BUS_CLOCK`: open, read by no rule (D8). -/
opaque busClock : Nat

/-- Free value (log 2): the environment's move at the n-th draw, when `script` names none. -/
opaque freeTurn : Nat → Machine.Turn

/-- Free value (log 7): the unspecified byte at the n-th draw (`CTRL_EVENT` after a command, 60_exceptions.md R302). -/
opaque freeByte : Nat → Byte

/-- Free value (log 13): whether `I2C_EVENT` has written `POLL_PENDING` when it faults in `IDLE`. 44_i2c_fsm.md R220 writes
it before the row that faults; 60_exceptions.md R282 says that the faulting operation has no effect. -/
opaque spuriousEventSetsPoll : Bool

end Sys2Proof.Config
end

