-- ==== Sys2Proof/Machine/State.lean ====
section
/-! DEFINITION. The state of the substrate (10_state.md R20 to R45), the reasons a step can stop, and the reset state
(R54, 70_reset_and_hazards.md R320). -/

namespace Sys2Proof.Machine

/-- What stops the machine. -/
inductive Fault where
  /-- Raised by `step` in a state with `FAULT != 0`: "no agent, device or interrupt takes a step while `FAULT != 0`"
  (60_exceptions.md R282). Safe: the spec gives no step there. -/
  | stickyFault (code : Byte)
  deriving DecidableEq, Repr

/-- What the model refuses. -/
inductive Refusal where
  /-- Raised by `exec` for an operation without a meaning; no arm of this model raises it. Safe. -/
  | notModelled (mnemonic : String)
  /-- Raised by the first step of a boot program or of a handler call whose program fails the pairing check: "A program
  that fails the check is refused, not run" (41_critical_section.md R126; 93_implementation_defined.md U10: "refuse").
  Safe. -/
  | unpairedCriticalSection
  /-- Raised by the first step of a task handler's call whose program returns with `I = 0`, and by such a return
  (70_reset_and_hazards.md R331; 93_implementation_defined.md U10: "The program is not admitted"). Safe. -/
  | returnWithInterruptsOff
  deriving DecidableEq, Repr

/-- The state. INVENTORY.md names each field with its rule, width and reset value. -/
structure State where
  /-- `CTX`, top first. -/
  ctx : List Ctx
  /-- `I`. -/
  iFlag : Bool
  irqTick : Bool
  irqI2c : Bool
  irqOther : Bool
  sleeping : Bool
  fault : Byte
  /-- `TASK[0..MAX_TASKS-1]`; its length is `MAX_TASKS`. -/
  tasks : List TaskSlot
  tickCount : BitVec 32
  tickDelta : Ticks
  pollPending : Bool
  runActive : Bool
  phase : Phase
  roundTicks : Ticks
  nextTicks : Ticks
  cursor : Nat
  /-- `Q[0..MAX_TRANSFERS-1]`; its length is `MAX_TRANSFERS`. -/
  queue : List Request
  rp : Nat
  busState : BusState
  nackReq : Bool
  txPend : Bool
  txData : Byte
  instantPend : Bool
  ctrlWait : Bool
  ctrlCmd : Option Cmd
  ctrlCode : Byte
  ctrlData : Byte
  busOwned : Bool
  /-- `WIRE`, oldest first. -/
  wire : List WireSym
  /-- The words of the interrupt body in progress not yet issued. -/
  isrBody : List Word
  /-- The rest of the boot program; none until it takes its first step (log 1). -/
  bootCode : Option Program
  /-- The rest of the task handler's call in progress; none until it takes its first step. -/
  taskCode : Option Program
  /-- The rest of the transfer handler's call in progress; none until it takes its first step. -/
  xferCode : Option Program
  params : Params
  /-- Model's own: what the last operation returned. -/
  result : Result
  /-- Model's own: the handler calls made, oldest first. -/
  calls : List Call
  /-- Model's own: the critical-section brackets entered and not left, innermost first. -/
  brackets : List Bracket
  /-- Model's own: `I` at the last task-handler call. -/
  taskCallI : Bool
  /-- Model's own: the environment's next moves, oldest first. -/
  script : List Turn
  /-- Model's own: the counter of the free values. -/
  draws : Nat
  deriving DecidableEq, Repr

/-- The reset state for given parameters (R54): every slot free, everything 0, empty or `IDLE`, `CTX = [BOOT]`.
`PHASE` and `CTRL_EVENT`, which R54 leaves unspecified, are DESIGN CHOICES (log 6, log 7). -/
def State.resetWith (maxTasks maxTransfers : Nat) (params : Params) : State where
  ctx := [.boot]
  iFlag := false
  irqTick := false
  irqI2c := false
  irqOther := false
  sleeping := false
  fault := 0#8
  tasks := List.replicate maxTasks { delay := 0#16, handler := 0#8 }
  tickCount := 0#32
  tickDelta := 0#16
  pollPending := false
  runActive := false
  phase := .clear
  roundTicks := 0#16
  nextTicks := 0#16
  cursor := 0
  queue := List.replicate maxTransfers { addr := 0#7, tx := false, handler := 0#8 }
  rp := 0
  busState := .idle
  nackReq := false
  txPend := false
  txData := 0#8
  instantPend := false
  ctrlWait := false
  ctrlCmd := none
  ctrlCode := 0#8
  ctrlData := 0#8
  busOwned := false
  wire := []
  isrBody := []
  bootCode := none
  taskCode := none
  xferCode := none
  params := params
  result := .nothing
  calls := []
  brackets := []
  taskCallI := false
  script := []
  draws := 0

/-- The machine right after reset. -/
def State.reset : State := State.resetWith Config.maxTasks Config.maxTransfers Config.params

/-- What one step, and one operation, answers. -/
abbrev StepResult := Host.Outcome State Fault Refusal

end Sys2Proof.Machine
end

