-- ==== Sys2Proof/Machine/Flags.lean ====
section
/-! DEFINITION. The codes of the enumerations, and the one-bit conditions the rules test (10_state.md R21, R33, R38,
R46; 30_encoding.md R105, R106; 60_exceptions.md R281). -/

namespace Sys2Proof.Machine

/-- 3-bit context codes (R21). -/
def Ctx.code : Ctx → BitVec 3
  | .boot => 0
  | .poll => 1
  | .taskCb _ => 2
  | .xferCb _ => 3
  | .isrTick => 4
  | .isrI2c => 5
  | .isrOther => 6

/-- 4-bit phase codes (R33). -/
def Phase.code : Phase → BitVec 4
  | .clear => 0
  | .drain => 1
  | .scan => 2
  | .inHandler => 3
  | .passEnd => 4
  | .busPoll => 5
  | .sleepCheck => 6
  | .halted => 7

/-- 3-bit bus-state codes (R38). -/
def BusState.code : BusState → BitVec 3
  | .idle => 0
  | .slaW => 1
  | .slaR => 2
  | .slaWSent => 3
  | .slaRSent => 4
  | .write => 5
  | .read => 6
  | .closingRead => 7

/-- 4-bit status values (R105). -/
def Status.code : Status → BitVec 4
  | .transmitReady => 0x1
  | .receiveReady => 0x2
  | .byteTransmitted => 0x3
  | .byteReceived => 0x4
  | .transmitFailed => 0x9
  | .receiveFailed => 0xA
  | .nack => 0xB
  | .lastByteReceived => 0xC

/-- `closing(s) = s[3]` (44_i2c_fsm.md R221). -/
def Status.closing (s : Status) : Bool := s.code.getLsbD 3

/-- A status whose handler may issue `I2C_NACK` (60_exceptions.md R285). -/
def Status.readPhase : Status → Bool
  | .receiveReady => true
  | .byteReceived => true
  | .transmitReady => false
  | .byteTransmitted => false
  | .transmitFailed => false
  | .receiveFailed => false
  | .nack => false
  | .lastByteReceived => false

/-- A status whose handler may issue `I2C_TX` (60_exceptions.md R285). -/
def Status.writePhase : Status → Bool
  | .transmitReady => true
  | .byteTransmitted => true
  | .receiveReady => false
  | .byteReceived => false
  | .transmitFailed => false
  | .receiveFailed => false
  | .nack => false
  | .lastByteReceived => false

/-- 3-bit command codes (R106). -/
def Cmd.code : Cmd → BitVec 3
  | .start => 1
  | .stop => 2
  | .send _ => 3
  | .recvAck => 4
  | .recvNack => 5

/-- 8-bit fault codes (R281). -/
def FaultCode.code : FaultCode → Byte
  | .illegalOpcode => 1
  | .reservedNonzero => 2
  | .contextViolation => 3
  | .invalidDelay => 4
  | .invalidTaskId => 5
  | .nullHandler => 6
  | .spuriousBusEvent => 7

/-- At least one pending bit is set (60_exceptions.md R292). -/
def State.anyIrq (s : State) : Bool := s.irqTick || s.irqI2c || s.irqOther

/-- The pending bit of a source (60_exceptions.md R290). -/
def State.irq (s : State) : IrqSource → Bool
  | .tick => s.irqTick
  | .i2c => s.irqI2c
  | .other => s.irqOther

/-- The source taken: the one `IRQ_ORDER` prefers if it is pending, else the first pending one (R292; log 16). -/
def State.pickIrq (s : State) (preferred : IrqSource) : IrqSource :=
  if s.irq preferred then preferred
  else if s.irqTick then .tick
  else if s.irqI2c then .i2c
  else .other

end Sys2Proof.Machine
end

