-- ==== Sys2Proof/Machine/Operands.lean ====
section
/-! DEFINITION. Operand assembly, the status-code map, the slots an operation finds, and who may issue what
(30_encoding.md R93 to R97, R104; 42_scheduler.md R140; 43_i2c_requests.md R190; 60_exceptions.md R285). -/

namespace Sys2Proof.Machine

/-- `STATUS_CODE_MAP(CODE)` (R104). -/
def StatusMap.event (m : StatusMap) (code : Byte) : BusEvent :=
  match m.rows.find? (fun r => r.1 == code &&& m.mask) with
  | some r => r.2
  | none => .other code

/-- The code of an event in the map (R104, used by 60_exceptions.md R303): that of the row that names it, and `c` for
`OTHER(c)`. -/
def StatusMap.codeOf (m : StatusMap) (ev : BusEvent) : Byte :=
  match m.rows.find? (fun r => r.2 == ev) with
  | some r => r.1
  | none =>
    match ev with
    | .other c => c
    | _ => 0x00#8

/-- The map gives the event for its code: it is one of R103's alphabet, and `OTHER(c)` only for a `c` the map does not
name (60_exceptions.md R304). -/
def StatusMap.reports (m : StatusMap) (ev : BusEvent) : Bool := decide (m.event (m.codeOf ev) = ev)

/-- The address byte `{ADDR, RW}` of a request, 0 meaning write (R97). -/
def Request.sla (q : Request) : Byte := q.addr.setWidth 8 <<< 1 ||| (BitVec.ofBool (!q.tx)).setWidth 8

/-- A free ring slot, which a read past the ring's end also gives (log 20). -/
def Request.free : Request := { addr := 0#7, tx := false, handler := 0#8 }

/-- `Q[RP]`, the active or next request (10_state.md R37). -/
def State.active (s : State) : Request := s.queue.getD s.rp Request.free

/-- The lowest-indexed free task slot (42_scheduler.md R140, D10). -/
def firstFreeTask (tasks : List TaskSlot) : Option Nat := tasks.findIdx? (fun t => t.delay == 0#16)

/-- The first free ring slot scanning forward from `RP`, wrapping once (43_i2c_requests.md R190). -/
def firstFreeRequest (queue : List Request) (rp : Nat) : Option Nat :=
  ((List.range queue.length).map (fun k => (rp + k) % queue.length)).find?
    (fun j => (queue.getD j Request.free).handler == 0#8)

/-- The permission matrix (60_exceptions.md R285): may the current context issue the operation? The engine's two
operations are tied to their micro-steps. `CTX` is never empty in a run; nothing may be issued if it is (log 18). -/
def mayIssue (i : Instr) (s : State) : Bool :=
  match s.ctx with
  | [] => false
  | .boot :: _ =>
    match i with
    | .csEnter => true
    | .csExit _ => true
    | .wait => false
    | .run => true
    | .schedTask _ _ => true
    | .unschedTask _ => true
    | .schedPoll => true
    | .tick => false
    | .i2cReq _ _ _ => true
    | .i2cReqi _ _ _ => false
    | .i2cNack => false
    | .i2cTx _ => false
    | .i2cPoll => true
    | .i2cEvent _ _ => false
  | .poll :: _ =>
    match i with
    | .csEnter => false
    | .csExit _ => false
    | .wait => decide (s.phase = .sleepCheck)
    | .run => false
    | .schedTask _ _ => false
    | .unschedTask _ => false
    | .schedPoll => false
    | .tick => false
    | .i2cReq _ _ _ => false
    | .i2cReqi _ _ _ => false
    | .i2cNack => false
    | .i2cTx _ => false
    | .i2cPoll => decide (s.phase = .busPoll)
    | .i2cEvent _ _ => false
  | .taskCb _ :: _ =>
    match i with
    | .csEnter => true
    | .csExit _ => true
    | .wait => false
    | .run => false
    | .schedTask _ _ => true
    | .unschedTask _ => true
    | .schedPoll => true
    | .tick => false
    | .i2cReq _ _ _ => true
    | .i2cReqi _ _ _ => false
    | .i2cNack => false
    | .i2cTx _ => false
    | .i2cPoll => true
    | .i2cEvent _ _ => false
  | .xferCb st :: _ =>
    match i with
    | .csEnter => true
    | .csExit t => !t
    | .wait => false
    | .run => false
    | .schedTask _ _ => true
    | .unschedTask _ => true
    | .schedPoll => true
    | .tick => false
    | .i2cReq _ _ _ => true
    | .i2cReqi _ _ _ => true
    | .i2cNack => st.readPhase
    | .i2cTx _ => st.writePhase
    | .i2cPoll => false
    | .i2cEvent _ _ => false
  | .isrTick :: _ =>
    match i with
    | .csEnter => false
    | .csExit _ => false
    | .wait => false
    | .run => false
    | .schedTask _ _ => false
    | .unschedTask _ => false
    | .schedPoll => false
    | .tick => true
    | .i2cReq _ _ _ => false
    | .i2cReqi _ _ _ => false
    | .i2cNack => false
    | .i2cTx _ => false
    | .i2cPoll => false
    | .i2cEvent _ _ => false
  | .isrI2c :: _ =>
    match i with
    | .csEnter => false
    | .csExit _ => false
    | .wait => false
    | .run => false
    | .schedTask _ _ => false
    | .unschedTask _ => false
    | .schedPoll => false
    | .tick => false
    | .i2cReq _ _ _ => false
    | .i2cReqi _ _ _ => false
    | .i2cNack => false
    | .i2cTx _ => false
    | .i2cPoll => false
    | .i2cEvent _ _ => true
  | .isrOther :: _ =>
    match i with
    | .csEnter => true
    | .csExit t => !t
    | .wait => false
    | .run => false
    | .schedTask _ _ => true
    | .unschedTask _ => true
    | .schedPoll => true
    | .tick => false
    | .i2cReq _ _ _ => false
    | .i2cReqi _ _ _ => false
    | .i2cNack => false
    | .i2cTx _ => false
    | .i2cPoll => false
    | .i2cEvent _ _ => false

end Sys2Proof.Machine
end

