-- ==== Sys2Proof/Machine/Ops.lean ====
section
/-! DEFINITION. The operations the meanings, the engine and the devices share: raising a fault, taking and leaving an
interrupt, commanding the bus controller, calling a handler, closing a transfer (60_exceptions.md R282, R293, R296,
R302; 44_i2c_fsm.md R223 to R227; 42_scheduler.md R156). -/

namespace Sys2Proof.Machine

/-- `raise Fault(code)`: sticky, and nothing else is written (R282). -/
def State.raise (s : State) (c : FaultCode) : State :=
  { s with fault := if s.fault = 0#8 then c.code else s.fault }

/-- Pop the current context. -/
def State.pop (s : State) : State := { s with ctx := s.ctx.tail }

/-- `return v` to the issuer (30_encoding.md R95; log 9). -/
def State.returns (s : State) (r : Result) : State := { s with result := r }

/-- An operation issued from a context that may not issue it faults; otherwise it has its effect (R101 check 3). -/
def guarded (i : Instr) (s : State) (effect : State → State) : StepResult :=
  .next (if mayIssue i s then effect s else s.raise .contextViolation)

/-- The operation word the interrupt body of the tick source issues (R290). -/
def tickWord : Word := encode .tick

/-- The operation word the interrupt body of the bus source issues (R290): its operands are `CTRL_EVENT`. -/
def State.eventWord (s : State) : Word := encode (.i2cEvent s.ctrlCode s.ctrlData)

/-- Interrupt entry (R293). The body of R290 is latched here, the bus source's operands with it (log 14). -/
def interruptEntry (x : IrqSource) (s : State) : State :=
  match x with
  | .tick =>
    { s with irqTick := false, sleeping := false, iFlag := false, ctx := .isrTick :: s.ctx, isrBody := [tickWord] }
  | .i2c =>
    { s with irqI2c := false, sleeping := false, iFlag := false, ctx := .isrI2c :: s.ctx, isrBody := [s.eventWord] }
  | .other =>
    { s with irqOther := false, sleeping := false, iFlag := false, ctx := .isrOther :: s.ctx,
             isrBody := s.params.otherIsr }

/-- Interrupt exit (R296), with the wake of the engine (45_sleep_gate.md R273). -/
def interruptExit (s : State) : State :=
  { s with
    ctx := s.ctx.tail
    iFlag := true
    phase := if s.ctx.tail.head? = some .poll ∧ s.phase = .halted then .clear else s.phase }

/-- What a command puts on the wire (R302). -/
def wireOf (busOwned : Bool) : Cmd → List WireSym
  | .start => if busOwned then [.sr] else [.s]
  | .send b => [.w b]
  | .recvAck => [.rAck]
  | .recvNack => [.rNack]
  | .stop => if busOwned then [.p] else []

/-- `cmd(c)`: the driver commands the bus controller (R302). `CTRL_EVENT` becomes unspecified: two free bytes
(log 7). -/
def State.cmd (s : State) (c : Cmd) : State :=
  { s with
    irqI2c := false
    ctrlCode := Config.freeByte s.draws
    ctrlData := Config.freeByte (s.draws + 1)
    draws := s.draws + 2
    wire := s.wire ++ wireOf s.busOwned c
    ctrlCmd := if c = .stop then none else some c
    ctrlWait := decide (c ≠ .stop)
    busOwned := if c = .stop then false else s.busOwned }

/-- The transfer at `RP` starts: its flags are cleared, START is commanded, the direction decides the state
(43_i2c_requests.md R200, 44_i2c_fsm.md R226). -/
def State.startTransfer (s : State) : State :=
  { ({ s with nackReq := false, txPend := false } : State).cmd .start with
    busState := if s.active.tx then .slaW else .slaR }

/-- The effect of `I2C_POLL` (43_i2c_requests.md R200), shared by the operation and the engine's micro-step. -/
def State.busPoll (s : State) : State :=
  if s.busState = .idle ∧ s.active.handler ≠ 0#8 then s.startTransfer else s

/-- The effect of `WAIT` (45_sleep_gate.md R270), shared by the operation and the engine's micro-step. -/
def State.halt (s : State) : State := { s with iFlag := true, sleeping := true }

/-- `close()`, the end of the active transfer (44_i2c_fsm.md R226). -/
def State.closeTransfer (s : State) : State :=
  if s.instantPend then
    { s with instantPend := false }.startTransfer
  else
    { ({ s with
          queue := s.queue.modify s.rp (fun q => { q with handler := 0#8 })
          rp := (s.rp + 1) % s.queue.length
          nackReq := false
          txPend := false } : State).cmd .stop with
      busState := .idle }

/-- The call of `deliver(s, d)` (44_i2c_fsm.md R224): the handler is read from `Q[RP]` now, and runs as `XFER_CB(s)`. Its
program is not chosen yet (log 1). -/
def State.deliver (s : State) (st : Status) (d : Byte) : State :=
  { s with ctx := .xferCb st :: s.ctx, calls := s.calls ++ [.xfer s.active.handler st d], xferCode := none }

/-- What `wcb` does with the handler's answer (44_i2c_fsm.md R223). -/
def State.writeAnswer (s : State) (r : Bool) : State :=
  if r ∧ s.txPend then
    { ({ s with txPend := false } : State).cmd (.send s.txData) with busState := .write }
  else s.closeTransfer

/-- What `rcb` does with the handler's answer (44_i2c_fsm.md R225). -/
def State.readAnswer (s : State) (r : Bool) : State :=
  if r then
    { s.cmd (if s.nackReq then .recvNack else .recvAck) with busState := .read }
  else
    { s.cmd .recvNack with busState := .closingRead }

/-- The transfer handler returns: the body goes on where it called, which the status delivered tells (R223, R225,
R227; log 15). The answer to a closing status is not read (R222). -/
def State.afterHandler (s : State) (st : Status) (r : Bool) : State :=
  match st with
  | .transmitReady => s.writeAnswer r
  | .byteTransmitted => s.writeAnswer r
  | .receiveReady => s.readAnswer r
  | .byteReceived => s.readAnswer r
  | .transmitFailed => s.closeTransfer
  | .receiveFailed => s.closeTransfer
  | .nack => s.closeTransfer
  | .lastByteReceived => s.closeTransfer

/-- `wcb(s)` up to the handler's call (R223). -/
def State.writeCallback (s : State) (st : Status) : State := { s with txPend := false }.deliver st 0x00#8

/-- `call_task(i)` (42_scheduler.md R156): `I` is left as it is. The handler's program is not chosen yet (log 1). -/
def State.callTask (s : State) (i : Nat) (h : Byte) : State :=
  { s with ctx := .taskCb i :: s.ctx, calls := s.calls ++ [.task i h], taskCode := none, taskCallI := s.iFlag }

/-- The program in progress of the current context: none in a context that runs no program, and none before the
program's first step (log 1). -/
def State.code (s : State) : Option Program :=
  match s.ctx with
  | .boot :: _ => s.bootCode
  | .taskCb _ :: _ => s.taskCode
  | .xferCb _ :: _ => s.xferCode
  | _ => none

/-- The current context's program is `p` from here on. -/
def State.withCode (s : State) (p : Program) : State :=
  match s.ctx with
  | .boot :: _ => { s with bootCode := some p }
  | .taskCb _ :: _ => { s with taskCode := some p }
  | .xferCb _ :: _ => { s with xferCode := some p }
  | _ => s

/-- Record a critical-section bracket entered by the current program (41_critical_section.md R126; log 11). -/
def State.openBracket (s : State) : State :=
  { s with brackets := { height := s.ctx.length, token := s.iFlag } :: s.brackets }

/-- Record an exit with token `t`: it leaves the current program's innermost bracket when that has token `t`, and none
otherwise (R126; log 11). -/
def State.closeBracket (s : State) (t : Bool) : State :=
  { s with
    brackets := match s.brackets with
      | [] => []
      | b :: bs => if b = { height := s.ctx.length, token := t } then bs else b :: bs }

end Sys2Proof.Machine
end

