-- ==== Sys2Proof/Machine/Devices.lean ====
section
/-! DEFINITION. The devices that raise interrupts (60_exceptions.md R300 to R305). -/

namespace Sys2Proof.Machine

/-- The tick timer fires; a bit already 1 stays 1 (R291, R300). -/
def timerFires (s : State) : State := { s with irqTick := true }

/-- Another device fires (R305). -/
def otherFires (s : State) : State := { s with irqOther := true }

/-- The events `CONFORMING` allows for the waited command (R304): an address byte is one sent in `SLA_W_SENT` or
`SLA_R_SENT`, a data byte one sent in `WRITE` (log 23). -/
def conforms (s : State) (ev : BusEvent) : Bool :=
  match s.ctrlCmd with
  | some .start =>
    decide (ev = (if s.busOwned then .repStartSent else .startSent) ∨ ev = .arbLost ∨ ev = .busError)
  | some (.send b) =>
    if s.busState = .slaWSent ∨ s.busState = .slaRSent then
      if b.getLsbD 0 then decide (ev = .slaRAck ∨ ev = .slaRNack ∨ ev = .arbLost ∨ ev = .busError)
      else decide (ev = .slaWAck ∨ ev = .slaWNack ∨ ev = .arbLost ∨ ev = .busError)
    else decide (ev = .dataTxAck ∨ ev = .dataTxNack ∨ ev = .arbLost ∨ ev = .busError)
  | some .recvAck => decide (ev = .dataRxAck ∨ ev = .busError)
  | some .recvNack => decide (ev = .dataRxNack ∨ ev = .arbLost ∨ ev = .busError)
  | some .stop => false
  | none => false

/-- The controller may report the event now (R303, R304). -/
def controllerMay (s : State) (ev : BusEvent) : Bool :=
  s.ctrlWait && s.params.statusMap.reports ev &&
    match s.params.controllerMode with
    | .any => true
    | .conforming => conforms s ev

/-- The controller's event step (R303); a report it may not make now is no step (log 5). -/
def controllerReports (ev : BusEvent) (d : Byte) (s : State) : State :=
  if controllerMay s ev then
    { s with
      ctrlCode := s.params.statusMap.codeOf ev
      ctrlData := d
      busOwned :=
        if ev = .startSent ∨ ev = .repStartSent then true
        else if ev = .arbLost ∨ ev = .busError then false
        else s.busOwned
      ctrlWait := false
      irqI2c := true }
  else s

end Sys2Proof.Machine
end

