-- ==== Sys2Proof/Machine/CriticalSection.lean ====
section
/-! DEFINITION. The critical section (41_critical_section.md). -/

namespace Sys2Proof.Machine

/-- `CS_ENTER` where it may be issued (R120). -/
def effectCsEnter (s : State) : State := { s.openBracket with iFlag := false }.returns (.token s.iFlag)

/-- `CS_ENTER` (R120). -/
def execCsEnter (s : State) : StepResult := guarded .csEnter s effectCsEnter

/-- `CS_EXIT T` where it may be issued (R122). -/
def effectCsExit (t : Bool) (s : State) : State := { s.closeBracket t with iFlag := t }.returns .nothing

/-- `CS_EXIT T` (R122). Its own check of R123 is the permission matrix's: in interrupt context and in a transfer handler
only `T = 0` may be issued. -/
def execCsExit (t : Bool) (s : State) : StepResult := guarded (.csExit t) s (effectCsExit t)

end Sys2Proof.Machine
end

