-- ==== Sys2Proof/Machine/I2cFsm.lean ====
section
/-! DEFINITION. The I2C master protocol state machine (44_i2c_fsm.md R220, R230). -/

namespace Sys2Proof.Machine

/-- The events that complete a START (R232, D22). -/
def BusEvent.startDone (ev : BusEvent) : Bool := decide (ev = .startSent ∨ ev = .repStartSent)

/-- Send the address byte of the active request (R230, R232). -/
def State.sendAddress (s : State) (next : BusState) : State :=
  { s.cmd (.send s.active.sla) with busState := next }

/-- The row of the transition table for the current `BUS_STATE` and the event, up to the handler's call where the row
makes one (R230; the rest of such a row is `State.afterHandler`). -/
def State.busRow (s : State) (ev : BusEvent) (b : Byte) : State :=
  match s.busState with
  | .idle => s.raise .spuriousBusEvent
  | .slaW => if ev.startDone then s.sendAddress .slaWSent else s.deliver .transmitFailed 0x00#8
  | .slaR => if ev.startDone then s.sendAddress .slaRSent else s.deliver .receiveFailed 0x00#8
  | .slaWSent => if ev = .slaWAck then s.writeCallback .transmitReady else s.deliver .transmitFailed 0x00#8
  | .slaRSent => if ev = .slaRAck then s.deliver .receiveReady 0x00#8 else s.deliver .receiveFailed 0x00#8
  | .write =>
    if ev = .dataTxAck then s.writeCallback .byteTransmitted
    else if ev = .dataTxNack then s.deliver .nack 0x00#8
    else s.deliver .transmitFailed 0x00#8
  | .read =>
    if ev = .dataRxAck then s.deliver .byteReceived b
    else if ev = .dataRxNack then s.deliver .lastByteReceived b
    else s.deliver .receiveFailed 0x00#8
  | .closingRead => if ev = .dataRxNack then s.closeTransfer else s.deliver .receiveFailed 0x00#8

/-- `I2C_EVENT CODE, DATA` in the bus interrupt (R220): `POLL_PENDING` is written and the row performed. In `IDLE` the row
faults (R231); whether `POLL_PENDING` is written then is a free value, because R220 and 60_exceptions.md R282 disagree
(DESIGN CHOICE, log 13). -/
def effectI2cEvent (code data : Byte) (s : State) : State :=
  if s.busState = .idle then
    { s with pollPending := s.pollPending || Config.spuriousEventSetsPoll }.raise .spuriousBusEvent
  else ({ s with pollPending := true }.busRow (s.params.statusMap.event code) data).returns .nothing

/-- `I2C_EVENT CODE, DATA`, the body of the bus interrupt (R220). -/
def execI2cEvent (code data : Byte) (s : State) : StepResult :=
  guarded (.i2cEvent code data) s (effectI2cEvent code data)

end Sys2Proof.Machine
end

