-- ==== Sys2Proof/Machine/I2cRequests.lean ====
section
/-! DEFINITION. The I2C request queue and the handler-side operations (43_i2c_requests.md). -/

namespace Sys2Proof.Machine

/-- `I2C_REQ ADDR, RW, H` where it may be issued (R190). -/
def effectI2cReq (addr : SlaveAddr) (rw : Bool) (h : Byte) (s : State) : State :=
  if h = 0#8 then s.raise .nullHandler
  else match firstFreeRequest s.queue s.rp with
    | some j => { s with queue := s.queue.set j { addr := addr, tx := !rw, handler := h } }.returns (.accepted true)
    | none => s.returns (.accepted false)

/-- `I2C_REQ ADDR, RW, H` (R190). -/
def execI2cReq (addr : SlaveAddr) (rw : Bool) (h : Byte) (s : State) : StepResult :=
  guarded (.i2cReq addr rw h) s (effectI2cReq addr rw h)

/-- `I2C_REQI ADDR, RW, H` where it may be issued (R193): overwrites the active request's own slot. -/
def effectI2cReqi (addr : SlaveAddr) (rw : Bool) (h : Byte) (s : State) : State :=
  if h = 0#8 then s.raise .nullHandler
  else
    { s with
      queue := s.queue.set s.rp { addr := addr, tx := !rw, handler := h }
      instantPend := true }.returns .nothing

/-- `I2C_REQI ADDR, RW, H` (R193). -/
def execI2cReqi (addr : SlaveAddr) (rw : Bool) (h : Byte) (s : State) : StepResult :=
  guarded (.i2cReqi addr rw h) s (effectI2cReqi addr rw h)

/-- `I2C_NACK` where it may be issued (R196). -/
def effectI2cNack (s : State) : State := { s with nackReq := true }.returns .nothing

/-- `I2C_NACK` (R196). -/
def execI2cNack (s : State) : StepResult := guarded .i2cNack s effectI2cNack

/-- `I2C_TX DATA` where it may be issued (R198). -/
def effectI2cTx (data : Byte) (s : State) : State := { s with txData := data, txPend := true }.returns .nothing

/-- `I2C_TX DATA` (R198). -/
def execI2cTx (data : Byte) (s : State) : StepResult := guarded (.i2cTx data) s (effectI2cTx data)

/-- `I2C_POLL` where it may be issued (R200). -/
def effectI2cPoll (s : State) : State := s.busPoll.returns .nothing

/-- `I2C_POLL` (R200). -/
def execI2cPoll (s : State) : StepResult := guarded .i2cPoll s effectI2cPoll

end Sys2Proof.Machine
end

