-- ==== Sys2Proof/Machine/Scheduler.lean ====
section
/-! DEFINITION. The scheduler's operations and the tick body (42_scheduler.md R140 to R150). -/

namespace Sys2Proof.Machine

/-- `SCHED_TASK H, DELAY` where it may be issued (R140). A full table is a result, not a fault (R142). -/
def effectSchedTask (h : Byte) (delay : Ticks) (s : State) : State :=
  if h = 0#8 then s.raise .nullHandler
  else if delay = 0#16 then s.raise .invalidDelay
  else match firstFreeTask s.tasks with
    | some i =>
      { s with tasks := s.tasks.set i { delay := delay, handler := h } }.returns (.scheduled true (BitVec.ofNat 8 i))
    | none => s.returns (.scheduled false 0#8)

/-- `SCHED_TASK H, DELAY` (R140). -/
def execSchedTask (h : Byte) (delay : Ticks) (s : State) : StepResult :=
  guarded (.schedTask h delay) s (effectSchedTask h delay)

/-- `UNSCHED_TASK ID` where it may be issued (R143). -/
def effectUnschedTask (id : Byte) (s : State) : State :=
  if s.tasks.length ≤ id.toNat then s.raise .invalidTaskId
  else { s with tasks := s.tasks.modify id.toNat (fun t => { t with delay := 0#16 }) }.returns .nothing

/-- `UNSCHED_TASK ID` (R143). -/
def execUnschedTask (id : Byte) (s : State) : StepResult := guarded (.unschedTask id) s (effectUnschedTask id)

/-- `SCHED_POLL` where it may be issued (R145). -/
def effectSchedPoll (s : State) : State := { s with pollPending := true }.returns .nothing

/-- `SCHED_POLL` (R145). -/
def execSchedPoll (s : State) : StepResult := guarded .schedPoll s effectSchedPoll

/-- `TICK` in the tick interrupt (R147): both counters wrap. -/
def effectTick (s : State) : State :=
  { s with tickCount := s.tickCount + 1, tickDelta := s.tickDelta + 1, pollPending := true }.returns .nothing

/-- `TICK`, the body of the tick interrupt (R147). -/
def execTick (s : State) : StepResult := guarded .tick s effectTick

/-- `RUN` where it may be issued (R150): boot code ends and never resumes. -/
def effectRun (s : State) : State := { s with runActive := true, ctx := [.poll], phase := .clear }.returns .nothing

/-- `RUN` (R150). -/
def execRun (s : State) : StepResult := guarded .run s effectRun

end Sys2Proof.Machine
end

