-- ==== Sys2Proof/Machine/SleepGate.lean ====
section
/-! DEFINITION. The halt (45_sleep_gate.md R270). -/

namespace Sys2Proof.Machine

/-- `WAIT` where it may be issued (R270): enabling interrupts and halting are one step. -/
def effectWait (s : State) : State := s.halt.returns .nothing

/-- `WAIT` (R270). -/
def execWait (s : State) : StepResult := guarded .wait s effectWait

end Sys2Proof.Machine
end

