-- ==== Sys2Proof/Machine/Dispatch.lean ====
section
/-! DEFINITION. One arm per operation (30_encoding.md R92). -/

namespace Sys2Proof.Machine

def exec (i : Instr) (s : State) : Host.Outcome State Fault Refusal :=
  match i with
  -- critical section
  | .csEnter => Sys2Proof.Machine.execCsEnter s
  | .csExit t => Sys2Proof.Machine.execCsExit t s
  -- sleep gate
  | .wait => Sys2Proof.Machine.execWait s
  -- scheduler
  | .run => Sys2Proof.Machine.execRun s
  | .schedTask h delay => Sys2Proof.Machine.execSchedTask h delay s
  | .unschedTask id => Sys2Proof.Machine.execUnschedTask id s
  | .schedPoll => Sys2Proof.Machine.execSchedPoll s
  | .tick => Sys2Proof.Machine.execTick s
  -- I2C requests
  | .i2cReq addr rw h => Sys2Proof.Machine.execI2cReq addr rw h s
  | .i2cReqi addr rw h => Sys2Proof.Machine.execI2cReqi addr rw h s
  | .i2cNack => Sys2Proof.Machine.execI2cNack s
  | .i2cTx data => Sys2Proof.Machine.execI2cTx data s
  | .i2cPoll => Sys2Proof.Machine.execI2cPoll s
  -- I2C state machine
  | .i2cEvent code data => Sys2Proof.Machine.execI2cEvent code data s

end Sys2Proof.Machine
end

