-- ==== Sys2Proof/Machine/Engine.lean ====
section
/-! DEFINITION. The poll engine's micro-steps and the task handler's return (42_scheduler.md R156, R160 to R168;
45_sleep_gate.md R272). -/

namespace Sys2Proof.Machine

/-- Micro-step `CLEAR` (R161). -/
def engineClear (s : State) : State := { s with pollPending := false, phase := .drain }

/-- Micro-step `DRAIN` (R162). -/
def engineDrain (s : State) : State :=
  if s.tickDelta = 0#16 then { s with tickDelta := 0#16, phase := .busPoll }
  else
    { s with
      tickDelta := 0#16
      roundTicks := s.tickDelta
      nextTicks := 0#16
      cursor := 0
      phase := .scan }

/-- Micro-step `SCAN`, one slot (R163): past the table's end the pass ends; an expired slot (R164) takes the
placeholder (R165) and its handler is called; any other occupied slot is reduced, which cannot wrap. DEDUCED (log 24): the
slot at `CURSOR` is examined as it is when the step comes to it, so a task that an interrupt put there after the pass
began is examined in this pass. -/
def engineScan (s : State) : State :=
  match s.tasks[s.cursor]? with
  | none => { s with phase := .passEnd }
  | some slot =>
    if slot.delay = 0#16 then { s with cursor := s.cursor + 1 }
    else if slot.delay ≤ s.roundTicks then
      { s with
        tasks := s.tasks.set s.cursor { slot with delay := s.params.placeholderDelay }
        phase := .inHandler }.callTask s.cursor slot.handler
    else
      { s with
        tasks := s.tasks.set s.cursor { slot with delay := slot.delay - s.roundTicks }
        cursor := s.cursor + 1 }

/-- The return of the task handler of slot `i` with the delay `r` (R166). -/
def taskReturn (i : Nat) (r : Ticks) (s : State) : State :=
  { s with
    ctx := s.ctx.tail
    tasks := s.tasks.modify i (fun t => { t with delay := r })
    nextTicks := s.nextTicks + s.tickDelta
    tickDelta := 0#16
    cursor := i + 1
    phase := .scan }

/-- Micro-step `PASS_END` (R167). -/
def enginePassEnd (s : State) : State :=
  if s.nextTicks = 0#16 then { s with phase := .busPoll }
  else { s with roundTicks := s.nextTicks, nextTicks := 0#16, cursor := 0, phase := .scan }

/-- Micro-step `BUS_POLL` (R168). -/
def engineBusPoll (s : State) : State := { s.busPoll with phase := .sleepCheck }

/-- Micro-step `SLEEP_CHECK` with the gate's answer (45_sleep_gate.md R272): the bracket it opens is closed by `WAIT`,
or restores `I`. -/
def engineSleepCheck (gate : Bool) (s : State) : State :=
  let opened := { s with iFlag := false }
  if s.pollPending = false ∧ gate = true then { opened.halt with phase := .halted }
  else { opened with iFlag := s.iFlag, phase := .clear }

/-- The engine's step: the micro-step `PHASE` names; none in `IN_HANDLER` and `HALTED`, and none before `RUN` (R160). -/
def engineStep (gate : Bool) (s : State) : State :=
  if s.runActive then
    match s.phase with
    | .clear => engineClear s
    | .drain => engineDrain s
    | .scan => engineScan s
    | .inHandler => s
    | .passEnd => enginePassEnd s
    | .busPoll => engineBusPoll s
    | .sleepCheck => engineSleepCheck gate s
    | .halted => s
  else s

end Sys2Proof.Machine
end

