-- ==== Sys2Proof/Machine/Agents.lean ====
section
/-! DEFINITION. Who steps and how: the execution unit (interrupt acceptance, interrupt bodies, the engine, programs and
their checks) and the devices (00_scope.md R13, R14; 60_exceptions.md R292, R294, R296; 10_state.md R52;
41_critical_section.md R126). -/

namespace Sys2Proof.Machine

/-- Why the program of a context is refused before its first step, if it is. Boot code and a handler's program must pass
the pairing check (41_critical_section.md R126, 93_implementation_defined.md U10; log 11); boot code ends at its first
`RUN` (00_scope.md R13), and a transfer handler may not enable interrupts (R123). A task handler's program must not return
with `I = 0` (70_reset_and_hazards.md R331, U10; log 12). -/
def refusalOf (c : Ctx) (i : Bool) (p : Program) : Option Refusal :=
  let text := match c with
    | .boot => (operations p.words).takeWhile (· != .run)
    | _ => operations p.words
  let enables := match c with
    | .xferCb _ => false
    | _ => true
  if pairedFrom enables i [] text = false then some .unpairedCriticalSection
  else match c with
    | .taskCb _ => if p.returns && !flagAfter i text then some .returnWithInterruptsOff else none
    | _ => none

/-- The operation a word decodes to runs; a word that decodes to none faults (30_encoding.md R101, R102). -/
def runWord (w : Word) (s : State) : StepResult :=
  match decode w with
  | .error .illegalOpcode => .next (s.raise .illegalOpcode)
  | .error .reservedNonzero => .next (s.raise .reservedNonzero)
  | .ok i => exec i s

/-- A step of an interrupt context: the next operation of its body, or the exit when the body has finished (R294,
R296). -/
def bodyStep (s : State) : StepResult :=
  match s.isrBody with
  | w :: rest => runWord w { s with isrBody := rest }
  | [] => .next (interruptExit s)

/-- The task handler of slot `i` returns (42_scheduler.md R166), with `I = 1` (70_reset_and_hazards.md R331; log 12). -/
def taskReturns (i : Nat) (r : Ticks) (s : State) : StepResult :=
  if s.iFlag = false then .refused .returnWithInterruptsOff else .next (taskReturn i r s)

/-- A step of the program `p` in the current context: its next word, or, past its last, its return (for a transfer
handler, 44_i2c_fsm.md R224). Past the last word of
boot code, and of a call that never returns, nothing more happens (93_implementation_defined.md U12). -/
def programStep (p : Program) (s : State) : StepResult :=
  match p.words with
  | w :: rest => runWord w (s.withCode { p with words := rest })
  | [] =>
    if p.returns then
      match s.ctx with
      | .taskCb i :: _ => taskReturns i p.delay s
      | .xferCb st :: _ => .next (s.pop.afterHandler st p.goOn)
      | _ => .next (s.withCode p)
    else .next (s.withCode p)

/-- A step of the current context's program: of the one in progress, or of the one drawn, which is refused, not run, if
it fails its checks (41_critical_section.md R126). -/
def softwareStep (c : Ctx) (drawn : Program) (s : State) : StepResult :=
  match s.code with
  | some p => programStep p s
  | none =>
    match refusalOf c s.iFlag drawn with
    | some r => .refused r
    | none => programStep drawn s

/-- A step of the execution unit. A pending interrupt is taken first (R292); a halted unit has no step (log 5); otherwise
the current context's agent steps. -/
def unitStep (d : UnitDraw) (s : State) : StepResult :=
  if s.iFlag && s.anyIrq then .next (interruptEntry (s.pickIrq d.irq) s)
  else if s.sleeping then .next s
  else
    match s.ctx with
    | [] => .next s
    | .poll :: _ => .next (engineStep d.gate s)
    | .isrTick :: _ => bodyStep s
    | .isrI2c :: _ => bodyStep s
    | .isrOther :: _ => bodyStep s
    | .boot :: _ => softwareStep .boot d.prog s
    | .taskCb i :: _ => softwareStep (.taskCb i) d.prog s
    | .xferCb st :: _ => softwareStep (.xferCb st) d.prog s

/-- One turn: a step of the execution unit or of a device (R14). -/
def turnStep (t : Turn) (s : State) : StepResult :=
  match t with
  | .execUnit d => unitStep d s
  | .tickTimer => .next (timerFires s)
  | .otherDevice => .next (otherFires s)
  | .controller ev d => .next (controllerReports ev d s)

/-- The next turn: the head of `script`, or a free one (log 2). -/
def State.nextTurn (s : State) : Turn := s.script.headD (Config.freeTurn s.draws)

/-- The state once its next turn is drawn. -/
def State.drawn (s : State) : State :=
  match s.script with
  | [] => { s with draws := s.draws + 1 }
  | _ :: rest => { s with script := rest }

/-- A turn of the execution unit for a step that asks nothing of the environment. -/
def plainTurn : Turn := .execUnit ⟨.tick, false, ⟨[], false, 0#16, false⟩⟩

/-- The state whose next step has the current context's agent issue the word: the word stands in front of the program or
the interrupt body in progress (log 1). -/
def State.issuing (s : State) (w : Word) : State :=
  let t := { s with script := plainTurn :: s.script }
  match s.ctx with
  | .isrTick :: _ => { t with isrBody := w :: s.isrBody }
  | .isrI2c :: _ => { t with isrBody := w :: s.isrBody }
  | .isrOther :: _ => { t with isrBody := w :: s.isrBody }
  | _ =>
    let p := s.code.getD ⟨[], false, 0#16, false⟩
    t.withCode { p with words := w :: p.words }

end Sys2Proof.Machine
end

