-- ==== Sys2Proof/Machine/Step.lean ====
section
/-! DEFINITION. One step of the machine (00_scope.md R14, 60_exceptions.md R282). -/

namespace Sys2Proof.Machine

/-- One atomic action of one agent. With `FAULT != 0` there is none (R282). -/
def step (s : State) : Host.Outcome State Fault Refusal :=
  if s.fault = 0#8 then turnStep s.nextTurn s.drawn else .fault (.stickyFault s.fault)

/-- `s` with the instruction presented as the current context's next operation (log 1). -/
def State.withFetchWord (s : State) (nbits w : Nat) : State := s.issuing (tableWord nbits w)

end Sys2Proof.Machine
end

