-- ==== Sys2Proof/Safety.lean ====
section
/-! DEFINITION. Safe runs and the terms claims use: the current context, the faulted and the quiescent state, the clean
entry, the legal parameters, the parts of the invariant (70_reset_and_hazards.md R323, R325; 10_state.md R50; 00_scope.md R6). -/

namespace Sys2Proof.Machine

/-- The current context (10_state.md R21). -/
def InCtx (c : Ctx) (s : State) : Prop := s.ctx.head? = some c
/-- A task handler is running. -/
def InTask (s : State) : Prop := ∃ i, InCtx (.taskCb i) s
/-- A transfer handler is running. -/
def InXfer (s : State) : Prop := ∃ st, InCtx (.xferCb st) s

/-- The contexts that may issue `CS_ENTER`, `SCHED_TASK`, `UNSCHED_TASK` and `SCHED_POLL` (60_exceptions.md R285). -/
def InProgram (s : State) : Prop := InCtx .boot s ∨ InTask s ∨ InXfer s ∨ InCtx .isrOther s

/-- A faulted state (R282). -/
def State.faulted (s : State) : Bool := s.fault != 0#8

/-- Every ring slot is free (R36). -/
def State.ringFree (s : State) : Bool := s.queue.all (fun q => q.handler == 0#8)

/-- The quiescent point (R325). -/
def State.quiescent (s : State) : Bool :=
  s.fault == 0#8 && s.runActive && decide (s.phase = .halted) && s.sleeping && !s.anyIrq && !s.ctrlWait &&
    decide (s.busState = .idle) && s.ringFree

/-- The clean-entry record (R323): the reset state of R320 for its parameters, whatever `PHASE`, `CTRL_EVENT` and the
environment's moves. -/
def State.cleanEntry (s : State) : Prop :=
  s = { State.resetWith s.tasks.length s.queue.length s.params with
        phase := s.phase, ctrlCode := s.ctrlCode, ctrlData := s.ctrlData,
        taskCallI := s.taskCallI, script := s.script, draws := s.draws }

/-- `I` is what it was at the last task-handler call: what a task handler must return with (70_reset_and_hazards.md R326;
log 12). -/
def State.flagAsCalled (s : State) : Prop := s.iFlag = s.taskCallI

/-- A legal `OTHER_ISR` (60_exceptions.md R305): operations that the matrix allows to `ISR_OTHER`, whatever their
operands, `SCHED_POLL` among them (log 21). -/
def otherIsrLegal (ws : List Word) : Bool :=
  let is := operations ws
  is.length == ws.length && is.contains .schedPoll &&
    is.all (fun i => match i with
      | .csEnter => true
      | .csExit t => !t
      | .schedTask _ _ => true
      | .unschedTask _ => true
      | .schedPoll => true
      | .wait => false
      | .run => false
      | .tick => false
      | .i2cReq _ _ _ => false
      | .i2cReqi _ _ _ => false
      | .i2cNack => false
      | .i2cTx _ => false
      | .i2cPoll => false
      | .i2cEvent _ _ => false)

/-- A map whose rows name codes under its mask, each once. -/
def StatusMap.legal (m : StatusMap) : Bool :=
  m.rows.all (fun r => r.1 &&& m.mask == r.1) && decide (m.rows.map Prod.fst).Nodup

/-- Parameters within the legal values of R6. -/
def State.legalParams (s : State) : Bool :=
  decide (1 ≤ s.tasks.length ∧ s.tasks.length ≤ 255 ∧ 1 ≤ s.queue.length ∧ s.queue.length ≤ 255) &&
    s.params.placeholderDelay != 0#16 && s.params.statusMap.legal && otherIsrLegal s.params.otherIsr

/-- An interrupt context (60_exceptions.md R290). -/
def Ctx.isIsr : Ctx → Bool
  | .isrTick => true
  | .isrI2c => true
  | .isrOther => true
  | .boot => false
  | .poll => false
  | .taskCb _ => false
  | .xferCb _ => false

/-- What runs below the interrupts: boot code alone, the engine alone, or one task handler over the engine. -/
def legalBase : List Ctx → Bool
  | [.boot] => true
  | [.poll] => true
  | [.taskCb _, .poll] => true
  | _ => false

/-- The legal context stacks, top first: interrupts do not nest, and a transfer handler runs only in the bus interrupt
(60_exceptions.md R294, R297). -/
def legalStack : List Ctx → Bool
  | .xferCb _ :: .isrI2c :: rest => legalBase rest
  | .isrTick :: rest => legalBase rest
  | .isrI2c :: rest => legalBase rest
  | .isrOther :: rest => legalBase rest
  | rest => legalBase rest

/-- Interrupt context is on the stack (00_scope.md R12). -/
def State.inIsr (s : State) : Bool := s.ctx.any Ctx.isIsr

/-- The bus interrupt has taken an event that the driver has not answered with a command yet. -/
def State.answering (s : State) : Bool :=
  match s.ctx with
  | .xferCb _ :: _ => true
  | .isrI2c :: _ => !s.isrBody.isEmpty
  | _ => false

/-- The occupied ring slots are the `k` slots from `RP` on (10_state.md R50 item 2). -/
def State.ringRun (s : State) (k : Nat) : Prop :=
  k ≤ s.queue.length ∧
    ∀ j, j < s.queue.length →
      ((s.queue.getD ((s.rp + j) % s.queue.length) Request.free).handler ≠ 0#8 ↔ j < k)

/-- The invariant of the states without a fault (10_state.md R50, with what makes it hold from step to step). -/
structure State.Inv (s : State) : Prop where
  /-- The context stack is a legal one; at most one task handler and one interrupt are on it. -/
  stack : legalStack s.ctx = true
  /-- Interrupt context runs with `I = 0` (41_critical_section.md R127). -/
  isrDisabled : s.inIsr = true → s.iFlag = false
  /-- Boot code runs until `RUN`, and never after (R32, 42_scheduler.md R150). -/
  bootBeforeRun : Ctx.boot ∈ s.ctx ↔ s.runActive = false
  /-- R50 item 1: the running task handler is that of slot `CURSOR`, with `PHASE = IN_HANDLER`. -/
  taskAtCursor : ∀ i, Ctx.taskCb i ∈ s.ctx → s.phase = .inHandler ∧ i = s.cursor ∧ i < s.tasks.length
  /-- `PHASE = IN_HANDLER` only while a task handler runs. -/
  handlerRuns : s.runActive = true → s.phase = .inHandler → ∃ i, Ctx.taskCb i ∈ s.ctx
  /-- The processor sleeps only in the engine's halt, with interrupts enabled (45_sleep_gate.md R272). -/
  asleep : s.sleeping = true → s.ctx = [.poll] ∧ s.phase = .halted ∧ s.iFlag = true
  /-- The engine at `HALTED` with nothing above it is asleep: it is not stuck (R273). -/
  haltedAsleep : s.ctx = [.poll] → s.phase = .halted → s.sleeping = true
  cursorBound : s.cursor ≤ s.tasks.length
  /-- `NEXT_TICKS` holds ticks only during a pass, from `SCAN` to `PASS_END` (42_scheduler.md R162, R166, R167). -/
  ticksSettled : s.runActive = false ∨ (s.phase ≠ .scan ∧ s.phase ≠ .inHandler ∧ s.phase ≠ .passEnd) →
    s.nextTicks = 0#16
  rpBound : s.rp < s.queue.length
  /-- R50 item 2. -/
  ring : ∃ k, s.ringRun k
  /-- R50 item 3. -/
  activeOccupied : s.busState ≠ .idle → s.active.handler ≠ 0#8
  /-- R50 item 4, and no event is being answered. -/
  idleQuiet : s.busState = .idle →
    s.instantPend = false ∧ s.ctrlWait = false ∧ s.irqI2c = false ∧ s.answering = false
  /-- R50 item 5: exactly one of the two, unless the bus interrupt is answering an event. -/
  oneOutstanding : s.busState ≠ .idle → s.answering = false → (s.ctrlWait = true ↔ s.irqI2c = false)
  /-- While it is, neither. -/
  answeringQuiet : s.answering = true → s.ctrlWait = false ∧ s.irqI2c = false
  /-- The bodies of the tick and the bus interrupt (60_exceptions.md R290). -/
  tickBody : s.ctx.head? = some .isrTick → s.isrBody = [] ∨ s.isrBody = [tickWord]
  busBody : s.ctx.head? = some .isrI2c → s.isrBody = [] ∨ ∃ c d, s.isrBody = [encode (.i2cEvent c d)]
  handlerBody : (∃ st, s.ctx.head? = some (.xferCb st)) → s.isrBody = []

end Sys2Proof.Machine
end

