-- ==== Sys2Proof/Certificates/Slice0/Obligations.lean ====
section
/-! DEFINITION. The statements. The predicates and the two expected states before them are written from the rules, not
from the model's operations. Where a command leaves `CTRL_EVENT` unspecified, the statement holds for whatever bytes and
draw count (log 7): it binds them by "there are". `result`, `calls`, `brackets`, `taskCallI` and the three programs are
the model's own fields (log 1, log 9 to log 12): what a statement says of one is the model's, not the spec's, and where it
says nothing of `brackets` it binds their new value by "there is". -/

namespace Sys2Proof.Machine

/-- The operation faults with the code, and writes nothing else (60_exceptions.md R282). -/
def FaultsOnly (i : Instr) (s : State) (code : Byte) : Prop := exec i s = .next { s with fault := code }

/-- Ring slot `j` is occupied, or free (10_state.md R36). -/
def Occupied (s : State) (j : Nat) : Prop := ∃ q, s.queue[j]? = some q ∧ q.handler ≠ 0#8
def FreeSlot (s : State) (j : Nat) : Prop := ∃ q, s.queue[j]? = some q ∧ q.handler = 0#8

/-- The state after a command (60_exceptions.md R302): `c` is what `CTRL_CMD` holds, `w` what goes on the wire. -/
def commanded (s : State) (code data : Byte) (n : Nat) (c : Option Cmd) (w : List WireSym) (owned : Bool) : State :=
  { s with
    irqI2c := false, ctrlCode := code, ctrlData := data, draws := n, wire := s.wire ++ w, ctrlCmd := c,
    ctrlWait := c.isSome, busOwned := owned }

/-- The state after START for the request `q` (43_i2c_requests.md R200, 44_i2c_fsm.md R226). -/
def started (s : State) (q : Request) (code data : Byte) (n : Nat) : State :=
  { commanded { s with nackReq := false, txPend := false } code data n (some .start)
      [if s.busOwned then .sr else .s] s.busOwned with
    busState := if q.tx then .slaW else .slaR }

/-- The state after `close()` of the transfer of the request `q` at `RP` (44_i2c_fsm.md R226). -/
def closed (s : State) (q : Request) (code data : Byte) (n : Nat) : State :=
  if s.instantPend then started { s with instantPend := false } q code data n
  else
    { commanded
        { s with
          queue := s.queue.set s.rp { q with handler := 0#8 }
          rp := (s.rp + 1) % s.queue.length
          nackReq := false
          txPend := false }
        code data n none (if s.busOwned then [.p] else []) false with
      busState := .idle }

/-- The next turn is the execution unit's with the draws `d`, it is not halted, and no interrupt is to be taken. -/
def UnitTurn (s : State) (d : UnitDraw) : Prop :=
  s.fault = 0#8 ∧ s.nextTurn = .execUnit d ∧ s.sleeping = false ∧
    (s.iFlag = false ∨ (s.irqTick = false ∧ s.irqI2c = false ∧ s.irqOther = false))

/-- The next turn is the poll engine's, at the given phase (42_scheduler.md R160). -/
def EngineTurn (s : State) (d : UnitDraw) (p : Phase) : Prop :=
  UnitTurn s d ∧ InCtx .poll s ∧ s.runActive = true ∧ s.phase = p

/-- No critical-section bracket that the current program entered is open (41_critical_section.md R126). -/
def BracketsPaired (s : State) : Prop := ∀ b ∈ s.brackets, b.height < s.ctx.length

/-- The pairing check of a handler's program, called with `I = i`; `enables` is whether it may issue `CS_EXIT 1`: a task
handler may, a transfer handler may not (41_critical_section.md R123, R126). -/
def PairedText (enables i : Bool) (p : Program) : Prop := pairedFrom enables i [] (operations p.words) = true

/-- That of a boot program, which ends at its first `RUN` (00_scope.md R13). -/
def PairedBoot (i : Bool) (p : Program) : Prop :=
  pairedFrom true i [] ((operations p.words).takeWhile (· != .run)) = true

/-- A task handler's program does not return with `I = 0` (70_reset_and_hazards.md R331). -/
def ReturnsEnabled (i : Bool) (p : Program) : Prop := p.returns = true → flagAfter i (operations p.words) = true

/-- The program of the current context is `p`: the one in progress, or, at its first step, the one drawn, which passes the
checks of its context (41_critical_section.md R126, 70_reset_and_hazards.md R331; log 1, log 11, log 12). -/
def RunsBoot (s : State) (d : UnitDraw) (p : Program) : Prop :=
  InCtx .boot s ∧ (s.bootCode = some p ∨ (s.bootCode = none ∧ d.prog = p ∧ PairedBoot s.iFlag p))
def RunsTask (s : State) (d : UnitDraw) (p : Program) : Prop :=
  InTask s ∧
    (s.taskCode = some p ∨ (s.taskCode = none ∧ d.prog = p ∧ PairedText true s.iFlag p ∧ ReturnsEnabled s.iFlag p))
def RunsXfer (s : State) (d : UnitDraw) (p : Program) : Prop :=
  InXfer s ∧ (s.xferCode = some p ∨ (s.xferCode = none ∧ d.prog = p ∧ PairedText false s.iFlag p))

/-- The execution unit decodes the word `w` next: the running program issues it, or it is the next of the interrupt body
in progress; `s1` is the state it runs in (10_state.md R52, 60_exceptions.md R294). -/
def Issues (s : State) (d : UnitDraw) (w : Word) (s1 : State) : Prop :=
  UnitTurn s d ∧
    ((∃ p ws, p.words = w :: ws ∧
        ((RunsBoot s d p ∧ s1 = { s.drawn with bootCode := some { p with words := ws } }) ∨
          (RunsTask s d p ∧ s1 = { s.drawn with taskCode := some { p with words := ws } }) ∨
          (RunsXfer s d p ∧ s1 = { s.drawn with xferCode := some { p with words := ws } }))) ∨
      (∃ ws, (InCtx .isrTick s ∨ InCtx .isrI2c s ∨ InCtx .isrOther s) ∧ s.isrBody = w :: ws ∧
        s1 = { s.drawn with isrBody := ws }))

/-- The transfer handler called with the status returns `r` (44_i2c_fsm.md R224). -/
def XferReturn (s : State) (d : UnitDraw) (r : Bool) : Prop :=
  ∃ p, UnitTurn s d ∧ RunsXfer s d p ∧ p.words = [] ∧ p.returns = true ∧ p.goOn = r

/-- The task handler returns `r` (42_scheduler.md R166). -/
def TaskReturn (s : State) (d : UnitDraw) (r : Ticks) : Prop :=
  ∃ p, UnitTurn s d ∧ RunsTask s d p ∧ p.words = [] ∧ p.returns = true ∧ p.delay = r

/-- Between `s` and `t` the controller got the command `c` (60_exceptions.md R302), and no other. -/
def GotCommand (s t : State) (c : Cmd) : Prop :=
  t.irqI2c = false ∧
    match c with
    | .start =>
      t.wire = s.wire ++ [if s.busOwned then .sr else .s] ∧ t.ctrlCmd = some .start ∧ t.ctrlWait = true ∧
        t.busOwned = s.busOwned
    | .send b =>
      t.wire = s.wire ++ [.w b] ∧ t.ctrlCmd = some (.send b) ∧ t.ctrlWait = true ∧ t.busOwned = s.busOwned
    | .recvAck => t.wire = s.wire ++ [.rAck] ∧ t.ctrlCmd = some .recvAck ∧ t.ctrlWait = true ∧ t.busOwned = s.busOwned
    | .recvNack => t.wire = s.wire ++ [.rNack] ∧ t.ctrlCmd = some .recvNack ∧ t.ctrlWait = true ∧ t.busOwned = s.busOwned
    | .stop =>
      t.wire = s.wire ++ (if s.busOwned then [.p] else []) ∧ t.ctrlCmd = none ∧ t.ctrlWait = false ∧ t.busOwned = false

/-- The assigned `OPC` values with the reserved bits of their formats (30_encoding.md R91, R92). -/
def reservedBits : List (Nat × Word) :=
  [(0x01, 0x07FFFFFF), (0x02, 0x07FFFFFE), (0x03, 0x07FFFFFF), (0x04, 0x07FFFFFF), (0x08, 0x07000000),
   (0x09, 0x07FFFF00), (0x0A, 0x07FFFFFF), (0x0B, 0x07FFFFFF), (0x10, 0x0700FF00), (0x11, 0x0700FF00),
   (0x12, 0x07FFFFFF), (0x13, 0x07FFFF00), (0x14, 0x07FFFFFF), (0x15, 0x07FF0000)]

/-- The handler call a row of the transition table makes: the status and the data byte (44_i2c_fsm.md R230). -/
def rowCall (bs : BusState) (ev : BusEvent) (b : Byte) : Option (Status × Byte) :=
  match bs with
  | .idle => none
  | .slaW => if ev = .startSent ∨ ev = .repStartSent then none else some (.transmitFailed, 0x00#8)
  | .slaR => if ev = .startSent ∨ ev = .repStartSent then none else some (.receiveFailed, 0x00#8)
  | .slaWSent => if ev = .slaWAck then some (.transmitReady, 0x00#8) else some (.transmitFailed, 0x00#8)
  | .slaRSent => if ev = .slaRAck then some (.receiveReady, 0x00#8) else some (.receiveFailed, 0x00#8)
  | .write =>
    if ev = .dataTxAck then some (.byteTransmitted, 0x00#8)
    else if ev = .dataTxNack then some (.nack, 0x00#8)
    else some (.transmitFailed, 0x00#8)
  | .read =>
    if ev = .dataRxAck then some (.byteReceived, b)
    else if ev = .dataRxNack then some (.lastByteReceived, b)
    else some (.receiveFailed, 0x00#8)
  | .closingRead => if ev = .dataRxNack then none else some (.receiveFailed, 0x00#8)

/-- The conforming events for the waited command (60_exceptions.md R304). -/
def conformingEvents (s : State) : List BusEvent :=
  match s.ctrlCmd with
  | some .start => [if s.busOwned then .repStartSent else .startSent, .arbLost, .busError]
  | some (.send b) =>
    if s.busState = .slaWSent ∨ s.busState = .slaRSent then
      if b.toNat % 2 = 0 then [.slaWAck, .slaWNack, .arbLost, .busError]
      else [.slaRAck, .slaRNack, .arbLost, .busError]
    else [.dataTxAck, .dataTxNack, .arbLost, .busError]
  | some .recvAck => [.dataRxAck, .busError]
  | some .recvNack => [.dataRxNack, .arbLost, .busError]
  | _ => []

/-- A sequence of operations, each answering a next state. -/
def runOps : List Instr → State → Option State
  | [], s => some s
  | i :: is, s =>
    match exec i s with
    | .next t => runOps is t
    | _ => none

end Sys2Proof.Machine

open Sys2Proof Sys2Proof.Machine

-- Critical section

/-- CS_ENTER returns I and clears it; elsewhere it faults (R120). -/
def Obligations.CsEnterSavesFlagAndDisables : Prop :=
  encode .csEnter = 0x08000000#32 ∧
  ∀ s : State,
    (InProgram s → ∃ bs, exec .csEnter s = .next { s with
      iFlag := false, result := .token s.iFlag, brackets := bs }) ∧
    (¬ InProgram s → s.fault = 0#8 → FaultsOnly .csEnter s 3#8)

/-- CS_EXIT T writes I; CS_EXIT 1 faults in interrupt context and in a transfer handler (R122, R123). -/
def Obligations.CsExitRestoresFlag : Prop :=
  ∀ t : Bool, encode (.csExit t) = (if t then 0x10000001#32 else 0x10000000#32) ∧
  ∀ s : State,
    (InCtx .boot s ∨ InTask s ∨ (t = false ∧ InProgram s) → ∃ bs, exec (.csExit t) s = .next { s with
      iFlag := t, result := .nothing, brackets := bs }) ∧
    (t = true → InCtx .isrTick s ∨ InCtx .isrI2c s ∨ InCtx .isrOther s ∨ InXfer s → s.fault = 0#8 →
      FaultsOnly (.csExit t) s 3#8) ∧
    (¬ InProgram s → s.fault = 0#8 → FaultsOnly (.csExit t) s 3#8)

/-- Nested critical sections keep I at 0 inside and restore it outside (R124). -/
def Obligations.NestedSectionsRestoreFlag : Prop :=
  ∀ (a b b' c c' d d' e : State) (t1 t2 : Bool),
    (InCtx .boot a ∨ InTask a ∨ (InProgram a ∧ a.iFlag = false)) →
    exec .csEnter a = .next b → b.result = .token t1 →
    b'.iFlag = b.iFlag → b'.ctx = a.ctx → exec .csEnter b' = .next c → c.result = .token t2 →
    c'.iFlag = c.iFlag → c'.ctx = a.ctx → exec (.csExit t2) c' = .next d →
    d'.iFlag = d.iFlag → d'.ctx = a.ctx → exec (.csExit t1) d' = .next e →
    d.iFlag = false ∧ e.iFlag = a.iFlag

/-- The brackets left open and I after a run are what the pairing check says of the straight-line program (the
model's choice, log 11) (41_critical_section.md R126, 41_critical_section.md R120, 41_critical_section.md R122,
41_critical_section.md R123, log 11). -/
def Obligations.PairingCheckFollowsProgram : Prop :=
  ∀ (p : List Instr) (s : State), BracketsPaired s →
    ((InCtx .boot s ∧ ∀ i ∈ p, i ≠ .run) ∨ InTask s →
      ∃ t, runOps p s = some t ∧ (BracketsPaired t ↔ pairedFrom true s.iFlag [] p = true) ∧
        t.iFlag = flagAfter s.iFlag p) ∧
    (InXfer s → s.iFlag = false →
      ∃ t, runOps p s = some t ∧ (BracketsPaired t ↔ pairedFrom false s.iFlag [] p = true) ∧ t.iFlag = false)

-- Sleep gate

/-- WAIT sets I and SLEEPING in one step, in the sleep check only (R270). -/
def Obligations.WaitEnablesAndHalts : Prop :=
  encode .wait = 0x18000000#32 ∧
  ∀ s : State,
    (InCtx .poll s → s.phase = .sleepCheck →
      exec .wait s = .next { s with iFlag := true, sleeping := true, result := .nothing }) ∧
    (¬ (InCtx .poll s ∧ s.phase = .sleepCheck) → s.fault = 0#8 → FaultsOnly .wait s 3#8)

-- Scheduler operations

/-- SCHED_TASK takes the lowest free slot; a full table, a null handler, a zero delay and a wrong context have their
own outcomes (R140). -/
def Obligations.SchedTaskTakesLowestFreeSlot : Prop :=
  ∀ (h : Byte) (delay : Ticks),
  encode (.schedTask h delay) = 0x40000000#32 ||| h.setWidth 32 <<< 16 ||| delay.setWidth 32 ∧
  ∀ s : State,
    (InProgram s → h ≠ 0#8 → delay ≠ 0#16 →
      (∀ i slot, s.tasks[i]? = some slot → slot.delay = 0#16 →
        (∀ j other, j < i → s.tasks[j]? = some other → other.delay ≠ 0#16) →
        exec (.schedTask h delay) s = .next { s with
          tasks := s.tasks.set i ⟨delay, h⟩, result := .scheduled true (BitVec.ofNat 8 i) }) ∧
      ((∀ slot ∈ s.tasks, slot.delay ≠ 0#16) →
        exec (.schedTask h delay) s = .next { s with result := .scheduled false 0#8 })) ∧
    (InProgram s → s.fault = 0#8 → h = 0#8 → FaultsOnly (.schedTask h delay) s 6#8) ∧
    (InProgram s → s.fault = 0#8 → h ≠ 0#8 → delay = 0#16 → FaultsOnly (.schedTask h delay) s 4#8) ∧
    (¬ InProgram s → s.fault = 0#8 → FaultsOnly (.schedTask h delay) s 3#8)

/-- UNSCHED_TASK frees the slot, or faults past the table (R143). -/
def Obligations.UnschedTaskFreesSlot : Prop :=
  ∀ id : Byte, encode (.unschedTask id) = 0x48000000#32 ||| id.setWidth 32 ∧
  ∀ s : State,
    (InProgram s → ∀ slot, s.tasks[id.toNat]? = some slot →
      exec (.unschedTask id) s = .next { s with
        tasks := s.tasks.set id.toNat { slot with delay := 0#16 }, result := .nothing }) ∧
    (InProgram s → s.fault = 0#8 → s.tasks.length ≤ id.toNat → FaultsOnly (.unschedTask id) s 5#8) ∧
    (¬ InProgram s → s.fault = 0#8 → FaultsOnly (.unschedTask id) s 3#8)

/-- SCHED_POLL sets POLL_PENDING and nothing else (R145). -/
def Obligations.SchedPollRequestsRound : Prop :=
  encode .schedPoll = 0x50000000#32 ∧
  ∀ s : State,
    (InProgram s → exec .schedPoll s = .next { s with pollPending := true, result := .nothing }) ∧
    (¬ InProgram s → s.fault = 0#8 → FaultsOnly .schedPoll s 3#8)

/-- TICK adds one to both counters modulo their widths (R147). -/
def Obligations.TickCountsOneTick : Prop :=
  encode .tick = 0x58000000#32 ∧
  ∀ s : State,
    (InCtx .isrTick s → ∃ (count : BitVec 32) (delta : Ticks),
      count.toNat = (s.tickCount.toNat + 1) % 2 ^ 32 ∧ delta.toNat = (s.tickDelta.toNat + 1) % 2 ^ 16 ∧
      exec .tick s = .next { s with
        tickCount := count, tickDelta := delta, pollPending := true, result := .nothing }) ∧
    (¬ InCtx .isrTick s → s.fault = 0#8 → FaultsOnly .tick s 3#8)

/-- RUN starts the poll engine from boot code only (R150). -/
def Obligations.RunStartsEngine : Prop :=
  encode .run = 0x20000000#32 ∧
  ∀ s : State,
    (InCtx .boot s → exec .run s = .next { s with
      runActive := true, ctx := [.poll], phase := .clear, result := .nothing }) ∧
    (¬ InCtx .boot s → s.fault = 0#8 → FaultsOnly .run s 3#8)

-- I2C requests

/-- I2C_REQ fills the first free slot scanning from RP and wrapping once (R190). -/
def Obligations.I2cReqTakesFirstFreeSlotFromRp : Prop :=
  ∀ (addr : SlaveAddr) (rw : Bool) (h : Byte),
  encode (.i2cReq addr rw h) =
    0x80000000#32 ||| h.setWidth 32 <<< 16 ||| addr.setWidth 32 <<< 1 ||| (if rw then 1#32 else 0#32) ∧
  ∀ s : State,
    (InCtx .boot s ∨ InTask s ∨ InXfer s → h ≠ 0#8 →
      (∀ k, k < s.queue.length → FreeSlot s ((s.rp + k) % s.queue.length) →
        (∀ k', k' < k → Occupied s ((s.rp + k') % s.queue.length)) →
        exec (.i2cReq addr rw h) s = .next { s with
          queue := s.queue.set ((s.rp + k) % s.queue.length) ⟨addr, !rw, h⟩, result := .accepted true }) ∧
      ((∀ q ∈ s.queue, q.handler ≠ 0#8) →
        exec (.i2cReq addr rw h) s = .next { s with result := .accepted false })) ∧
    (InCtx .boot s ∨ InTask s ∨ InXfer s → s.fault = 0#8 → h = 0#8 → FaultsOnly (.i2cReq addr rw h) s 6#8) ∧
    (¬ (InCtx .boot s ∨ InTask s ∨ InXfer s) → s.fault = 0#8 → FaultsOnly (.i2cReq addr rw h) s 3#8)

/-- I2C_REQI overwrites the slot at RP and marks the chain (R193). -/
def Obligations.I2cReqiOverwritesActiveSlot : Prop :=
  ∀ (addr : SlaveAddr) (rw : Bool) (h : Byte),
  encode (.i2cReqi addr rw h) =
    0x88000000#32 ||| h.setWidth 32 <<< 16 ||| addr.setWidth 32 <<< 1 ||| (if rw then 1#32 else 0#32) ∧
  ∀ s : State,
    (InXfer s → h ≠ 0#8 → exec (.i2cReqi addr rw h) s = .next { s with
      queue := s.queue.set s.rp ⟨addr, !rw, h⟩, instantPend := true, result := .nothing }) ∧
    (InXfer s → s.fault = 0#8 → h = 0#8 → FaultsOnly (.i2cReqi addr rw h) s 6#8) ∧
    (¬ InXfer s → s.fault = 0#8 → FaultsOnly (.i2cReqi addr rw h) s 3#8)

/-- I2C_NACK sets NACK_REQ in the two read-phase callbacks (R196). -/
def Obligations.I2cNackMarksNextByte : Prop :=
  encode .i2cNack = 0x90000000#32 ∧
  ∀ s : State,
    (InCtx (.xferCb .receiveReady) s ∨ InCtx (.xferCb .byteReceived) s →
      exec .i2cNack s = .next { s with nackReq := true, result := .nothing }) ∧
    (¬ (InCtx (.xferCb .receiveReady) s ∨ InCtx (.xferCb .byteReceived) s) → s.fault = 0#8 →
      FaultsOnly .i2cNack s 3#8)

/-- I2C_TX supplies the byte in the two write-phase callbacks (R198). -/
def Obligations.I2cTxSuppliesByte : Prop :=
  ∀ data : Byte, encode (.i2cTx data) = 0x98000000#32 ||| data.setWidth 32 ∧
  ∀ s : State,
    (InCtx (.xferCb .transmitReady) s ∨ InCtx (.xferCb .byteTransmitted) s →
      exec (.i2cTx data) s = .next { s with txData := data, txPend := true, result := .nothing }) ∧
    (¬ (InCtx (.xferCb .transmitReady) s ∨ InCtx (.xferCb .byteTransmitted) s) → s.fault = 0#8 →
      FaultsOnly (.i2cTx data) s 3#8)

/-- I2C_POLL starts the request at RP when the bus is idle (R200). -/
def Obligations.I2cPollStartsWaitingRequest : Prop :=
  encode .i2cPoll = 0xA0000000#32 ∧
  ∀ s : State,
    (InCtx .boot s ∨ InTask s ∨ (InCtx .poll s ∧ s.phase = .busPoll) →
      (∀ q, s.busState = .idle → s.queue[s.rp]? = some q → q.handler ≠ 0#8 →
        ∃ code data n, exec .i2cPoll s = .next { started s q code data n with result := .nothing }) ∧
      (s.busState ≠ .idle ∨ FreeSlot s s.rp → exec .i2cPoll s = .next { s with result := .nothing })) ∧
    (¬ (InCtx .boot s ∨ InTask s ∨ (InCtx .poll s ∧ s.phase = .busPoll)) → s.fault = 0#8 →
      FaultsOnly .i2cPoll s 3#8)

-- I2C state machine

/-- I2C_EVENT faults outside the bus interrupt, and in IDLE (there POLL_PENDING is a free value, set or unchanged:
log 13) (44_i2c_fsm.md R220, 44_i2c_fsm.md R231, 60_exceptions.md R282, 60_exceptions.md R285, log 13). -/
def Obligations.I2cEventOutsideBodyFaults : Prop :=
  ∀ code data : Byte,
  encode (.i2cEvent code data) = 0xA8000000#32 ||| code.setWidth 32 <<< 8 ||| data.setWidth 32 ∧
  ∀ s : State,
    (¬ InCtx .isrI2c s → s.fault = 0#8 → FaultsOnly (.i2cEvent code data) s 3#8) ∧
    (InCtx .isrI2c s → s.fault = 0#8 → s.busState = .idle →
      ∃ pending : Bool,
      (pending = true ∨ pending = s.pollPending) ∧
      exec (.i2cEvent code data) s = .next { s with pollPending := pending, fault := 7#8 })

/-- A completed START or REPEATED START sends the address byte (44_i2c_fsm.md R230, 44_i2c_fsm.md R232,
30_encoding.md R97, 60_exceptions.md R302). -/
def Obligations.StartCompletionSendsAddress : Prop :=
  ∀ (s : State) (code data : Byte) (q : Request), InCtx .isrI2c s → s.queue[s.rp]? = some q →
    (s.params.statusMap.event code = .startSent ∨ s.params.statusMap.event code = .repStartSent) →
    ∃ sla : Byte, sla.toNat = 2 * q.addr.toNat + (if q.tx then 0 else 1) ∧
      (s.busState = .slaW → ∃ c d n, exec (.i2cEvent code data) s = .next
        { commanded s c d n (some (.send sla)) [.w sla] s.busOwned with
          pollPending := true, busState := .slaWSent, result := .nothing }) ∧
      (s.busState = .slaR → ∃ c d n, exec (.i2cEvent code data) s = .next
        { commanded s c d n (some (.send sla)) [.w sla] s.busOwned with
          pollPending := true, busState := .slaRSent, result := .nothing })

/-- Every row of the transition table that calls the handler calls it with that row's status and byte (44_i2c_fsm.md
R228, 44_i2c_fsm.md R229, 44_i2c_fsm.md R230, 44_i2c_fsm.md R220, 44_i2c_fsm.md R223, 44_i2c_fsm.md R224, log 1, log
10). The record of calls is log 10. -/
def Obligations.EventRowsCallHandler : Prop :=
  ∀ (s : State) (code data : Byte) (q : Request) (st : Status) (b : Byte),
    InCtx .isrI2c s → s.queue[s.rp]? = some q →
    rowCall s.busState (s.params.statusMap.event code) data = some (st, b) →
    exec (.i2cEvent code data) s = .next { s with
      pollPending := true, ctx := .xferCb st :: s.ctx, calls := s.calls ++ [.xfer q.handler st b], xferCode := none,
      txPend := if st = .transmitReady ∨ st = .byteTransmitted then false else s.txPend, result := .nothing }

/-- The byte a closing read forces is consumed without a callback (44_i2c_fsm.md R230, 44_i2c_fsm.md R237,
44_i2c_fsm.md R226). -/
def Obligations.ClosingReadConsumesByte : Prop :=
  ∀ (s : State) (code data : Byte) (q : Request),
    InCtx .isrI2c s → s.queue[s.rp]? = some q → s.busState = .closingRead → s.params.statusMap.event code = .dataRxNack →
    ∃ c d n, exec (.i2cEvent code data) s = .next { closed s q c d n with pollPending := true, result := .nothing }

/-- After a write-phase callback: a supplied byte is sent, or the transfer closes (44_i2c_fsm.md R223, 44_i2c_fsm.md
R226, 60_exceptions.md R302, log 1, log 15). -/
def Obligations.WriteHandlerAnswer : Prop :=
  ∀ (s : State) (d : UnitDraw) (r : Bool) (st : Status) (rest : List Ctx) (q : Request),
    XferReturn s d r → s.ctx = .xferCb st :: rest → s.queue[s.rp]? = some q → (st = .transmitReady ∨ st = .byteTransmitted) →
    (r = true → s.txPend = true → ∃ code data n, step s = .next
      { commanded { s.drawn with ctx := rest, txPend := false } code data n (some (.send s.txData)) [.w s.txData]
          s.busOwned with busState := .write }) ∧
    (r = false ∨ s.txPend = false → ∃ code data n, step s = .next (closed { s.drawn with ctx := rest } q code data n))

/-- After a read-phase callback: the next byte is received with ACK or NACK, or in CLOSING_READ (44_i2c_fsm.md R225,
60_exceptions.md R302, log 1, log 15). -/
def Obligations.ReadHandlerAnswer : Prop :=
  ∀ (s : State) (d : UnitDraw) (r : Bool) (st : Status) (rest : List Ctx),
    XferReturn s d r → s.ctx = .xferCb st :: rest → (st = .receiveReady ∨ st = .byteReceived) →
    (r = true → s.nackReq = true → ∃ code data n, step s = .next
      { commanded { s.drawn with ctx := rest } code data n (some .recvNack) [.rNack] s.busOwned with
        busState := .read }) ∧
    (r = true → s.nackReq = false → ∃ code data n, step s = .next
      { commanded { s.drawn with ctx := rest } code data n (some .recvAck) [.rAck] s.busOwned with
        busState := .read }) ∧
    (r = false → ∃ code data n, step s = .next
      { commanded { s.drawn with ctx := rest } code data n (some .recvNack) [.rNack] s.busOwned with
        busState := .closingRead })

/-- After a closing status the transfer closes, whatever the handler answers (44_i2c_fsm.md R222, 44_i2c_fsm.md
R226, 44_i2c_fsm.md R227, log 1, log 15). -/
def Obligations.ClosingStatusClosesTransfer : Prop :=
  ∀ (s : State) (d : UnitDraw) (r : Bool) (st : Status) (rest : List Ctx) (q : Request),
    XferReturn s d r → s.ctx = .xferCb st :: rest → s.queue[s.rp]? = some q →
    (st = .transmitFailed ∨ st = .receiveFailed ∨ st = .nack ∨ st = .lastByteReceived) →
    ∃ code data n, step s = .next (closed { s.drawn with ctx := rest } q code data n)

/-- Outside IDLE an event is answered at once by exactly one command, or by a handler call whose return is
(44_i2c_fsm.md R245, 44_i2c_fsm.md R226, 60_exceptions.md R302, log 1, log 15). -/
def Obligations.EventGetsExactlyOneCommand : Prop :=
  ∀ (s t : State), s.busState ≠ .idle →
    (∀ code data, InCtx .isrI2c s → exec (.i2cEvent code data) s = .next t →
      (t.ctx = s.ctx ∧ ∃ c, GotCommand s t c ∧ (∀ c', GotCommand s t c' → c' = c) ∧ (t.busState = .idle ↔ c = .stop)) ∨
      ((∃ st, t.ctx = .xferCb st :: s.ctx) ∧ t.wire = s.wire ∧ t.ctrlWait = s.ctrlWait ∧ t.ctrlCmd = s.ctrlCmd ∧
        t.irqI2c = s.irqI2c ∧ t.busOwned = s.busOwned ∧ t.busState = s.busState)) ∧
    (∀ d r, XferReturn s d r → step s = .next t →
      t.ctx = s.ctx.tail ∧
      ∃ c, GotCommand s t c ∧ (∀ c', GotCommand s t c' → c' = c) ∧ (t.busState = .idle ↔ c = .stop))

-- Encoding

/-- Decoding an encoded operation gives it back, for every operand value (30_encoding.md R91, 30_encoding.md R92,
30_encoding.md R93). -/
def Obligations.DecodeEncodeRoundTrip : Prop := ∀ i : Instr, decode (encode i) = .ok i

/-- A word that decodes is the word of the operation it decodes to (30_encoding.md R90, 30_encoding.md R91,
30_encoding.md R101). -/
def Obligations.EncodeDecodeRoundTrip : Prop := ∀ (w : Word) (i : Instr), decode w = .ok i → encode i = w

/-- An unassigned opcode and a nonzero reserved bit fault before anything else is looked at (30_encoding.md R91,
30_encoding.md R92, 30_encoding.md R101, 60_exceptions.md R281, 60_exceptions.md R282, log 1). -/
def Obligations.BadWordsFaultBeforeContext : Prop :=
  ∀ (s s1 : State) (d : UnitDraw) (w : Word), Issues s d w s1 →
    ((∀ m, (w.toNat / 2 ^ 27, m) ∉ reservedBits) → step s = .next { s1 with fault := 1#8 }) ∧
    (∀ m, (w.toNat / 2 ^ 27, m) ∈ reservedBits → w &&& m ≠ 0#32 → step s = .next { s1 with fault := 2#8 })

/-- The worked encodings decode to the operations they stand for (R110). -/
def Obligations.WrittenWordsDecode : Prop :=
  decode 0x40010003#32 = .ok (.schedTask 1#8 3#16) ∧ decode 0x800100D0#32 = .ok (.i2cReq 0x68#7 false 1#8) ∧
  decode 0x880200D1#32 = .ok (.i2cReqi 0x68#7 true 2#8) ∧ decode 0x98000000#32 = .ok (.i2cTx 0#8) ∧
  decode 0xA8001800#32 = .ok (.i2cEvent 0x18#8 0#8) ∧ decode 0xA8005834#32 = .ok (.i2cEvent 0x58#8 0x34#8) ∧
  decode 0x10000001#32 = .ok (.csExit true)

/-- The reset state's status-code map is the default table on CODE & 0xF8 (R104). -/
def Obligations.StatusCodesMapToEvents : Prop :=
  State.reset.params.statusMap = defaultStatusMap ∧
  ∀ code : Byte,
    (code &&& 0xF8#8 = 0x08#8 → defaultStatusMap.event code = .startSent) ∧
    (code &&& 0xF8#8 = 0x10#8 → defaultStatusMap.event code = .repStartSent) ∧
    (code &&& 0xF8#8 = 0x18#8 → defaultStatusMap.event code = .slaWAck) ∧
    (code &&& 0xF8#8 = 0x20#8 → defaultStatusMap.event code = .slaWNack) ∧
    (code &&& 0xF8#8 = 0x28#8 → defaultStatusMap.event code = .dataTxAck) ∧
    (code &&& 0xF8#8 = 0x30#8 → defaultStatusMap.event code = .dataTxNack) ∧
    (code &&& 0xF8#8 = 0x38#8 → defaultStatusMap.event code = .arbLost) ∧
    (code &&& 0xF8#8 = 0x40#8 → defaultStatusMap.event code = .slaRAck) ∧
    (code &&& 0xF8#8 = 0x48#8 → defaultStatusMap.event code = .slaRNack) ∧
    (code &&& 0xF8#8 = 0x50#8 → defaultStatusMap.event code = .dataRxAck) ∧
    (code &&& 0xF8#8 = 0x58#8 → defaultStatusMap.event code = .dataRxNack) ∧
    (code &&& 0xF8#8 = 0x00#8 → defaultStatusMap.event code = .busError) ∧
    (0x58#8 < code &&& 0xF8#8 → defaultStatusMap.event code = .other code)

-- The step

/-- A step runs the operation the issued word decodes to (10_state.md R52, 30_encoding.md R102, 60_exceptions.md
R294, 41_critical_section.md R126, log 1, log 2, log 11, log 12). -/
def Obligations.StepRunsIssuedWord : Prop :=
  (∀ (s s1 : State) (d : UnitDraw) (w : Word) (i : Instr), Issues s d w s1 → decode w = .ok i →
    step s = exec i s1) ∧
  (∀ (s : State) (t : Turn) (rest : List Turn), s.script = t :: rest →
    s.nextTurn = t ∧ s.drawn = { s with script := rest })

/-- No step leaves a faulted state (60_exceptions.md R282, log 17). -/
def Obligations.FaultedStateIsQuiescent : Prop :=
  ∀ s : State, (s.fault ≠ 0#8 → step s = .fault (.stickyFault s.fault)) ∧
    (∀ t, step s = .next t → s.fault = 0#8)

/-- With I = 1 and an interrupt pending, the unit's next step is its entry, precise and before anything else
(60_exceptions.md R290, 60_exceptions.md R292, 60_exceptions.md R293, log 14, log 16). -/
def Obligations.PendingInterruptIsTakenFirst : Prop :=
  ∀ (s : State) (d : UnitDraw), s.fault = 0#8 → s.nextTurn = .execUnit d → s.iFlag = true →
    (s.irqTick = true ∨ s.irqI2c = true ∨ s.irqOther = true) →
    ∃ x, s.irq x = true ∧ (s.irq d.irq = true → x = d.irq) ∧
      (x = .tick → step s = .next { s.drawn with
        irqTick := false, sleeping := false, iFlag := false, ctx := .isrTick :: s.ctx, isrBody := [0x58000000#32] }) ∧
      (x = .i2c → step s = .next { s.drawn with
        irqI2c := false, sleeping := false, iFlag := false, ctx := .isrI2c :: s.ctx,
        isrBody := [0xA8000000#32 ||| s.ctrlCode.setWidth 32 <<< 8 ||| s.ctrlData.setWidth 32] }) ∧
      (x = .other → step s = .next { s.drawn with
        irqOther := false, sleeping := false, iFlag := false, ctx := .isrOther :: s.ctx,
        isrBody := s.params.otherIsr })

/-- A finished interrupt body exits: the context resumes, I = 1, a halted engine wakes (R296). -/
def Obligations.FinishedBodyExits : Prop :=
  ∀ (s : State) (d : UnitDraw) (c : Ctx) (rest : List Ctx), UnitTurn s d → s.ctx = c :: rest →
    (c = .isrTick ∨ c = .isrI2c ∨ c = .isrOther) → s.isrBody = [] →
    (rest.head? = some .poll → s.phase = .halted →
      step s = .next { s.drawn with ctx := rest, iFlag := true, phase := .clear }) ∧
    (¬ (rest.head? = some .poll ∧ s.phase = .halted) → step s = .next { s.drawn with ctx := rest, iFlag := true })

/-- A tick interrupt is three steps that leave the interrupted context as it was (42_scheduler.md R147,
60_exceptions.md R293, 60_exceptions.md R294, 60_exceptions.md R296). -/
def Obligations.TickInterruptResumesContext : Prop :=
  ∀ (s : State) (d1 d2 d3 : UnitDraw) (rest : List Turn),
    s.fault = 0#8 → s.iFlag = true → s.irqTick = true → d1.irq = .tick →
    s.script = .execUnit d1 :: .execUnit d2 :: .execUnit d3 :: rest →
    core.run 3 s = .next { s with
      irqTick := false, sleeping := false, isrBody := [], script := rest, pollPending := true,
      tickCount := s.tickCount + 1, tickDelta := s.tickDelta + 1, result := .nothing,
      phase := if s.ctx.head? = some .poll ∧ s.phase = .halted then .clear else s.phase }

/-- A program with unpaired critical sections, or a task handler returning with I = 0, is refused, not run, and
nothing else is (how: log 1, log 11, log 12) (41_critical_section.md R126, 41_critical_section.md R123,
70_reset_and_hazards.md R331, 93_implementation_defined.md U10, log 1, log 11, log 12). -/
def Obligations.UnpairedProgramIsRefused : Prop :=
  (∀ (s : State) (d : UnitDraw), UnitTurn s d →
    (InCtx .boot s → s.bootCode = none → ¬ PairedBoot s.iFlag d.prog → step s = .refused .unpairedCriticalSection) ∧
    (InTask s → s.taskCode = none → ¬ PairedText true s.iFlag d.prog → step s = .refused .unpairedCriticalSection) ∧
    (InXfer s → s.xferCode = none → ¬ PairedText false s.iFlag d.prog → step s = .refused .unpairedCriticalSection) ∧
    (InTask s → s.taskCode = none → PairedText true s.iFlag d.prog → ¬ ReturnsEnabled s.iFlag d.prog →
      step s = .refused .returnWithInterruptsOff) ∧
    (∀ r, TaskReturn s d r → s.iFlag = false → step s = .refused .returnWithInterruptsOff)) ∧
  ∀ (s : State) (r : Refusal), step s = .refused r → ∃ d, UnitTurn s d ∧
    ((r = .unpairedCriticalSection ∧
        ((InCtx .boot s ∧ s.bootCode = none ∧ ¬ PairedBoot s.iFlag d.prog) ∨
          (InTask s ∧ s.taskCode = none ∧ ¬ PairedText true s.iFlag d.prog) ∨
          (InXfer s ∧ s.xferCode = none ∧ ¬ PairedText false s.iFlag d.prog))) ∨
      (r = .returnWithInterruptsOff ∧
        ((InTask s ∧ s.taskCode = none ∧ ¬ ReturnsEnabled s.iFlag d.prog) ∨
          (s.iFlag = false ∧ ∃ delay, TaskReturn s d delay))))

-- The poll engine

/-- CLEAR clears POLL_PENDING (R161). -/
def Obligations.EngineClearStep : Prop :=
  ∀ (s : State) (d : UnitDraw), EngineTurn s d .clear →
    step s = .next { s.drawn with pollPending := false, phase := .drain }

/-- DRAIN moves the tick delta into the round (R162). -/
def Obligations.EngineDrainStep : Prop :=
  ∀ (s : State) (d : UnitDraw), EngineTurn s d .drain →
    (s.tickDelta = 0#16 → step s = .next { s.drawn with phase := .busPoll }) ∧
    (s.tickDelta ≠ 0#16 → step s = .next { s.drawn with
      tickDelta := 0#16, roundTicks := s.tickDelta, nextTicks := 0#16, cursor := 0, phase := .scan })

/-- SCAN treats one slot: skip, expire or reduce (deduced for a task put at CURSOR during SCAN: log 24; model's own
fields: log 1, log 10, log 12) (42_scheduler.md R163, 42_scheduler.md R164, 42_scheduler.md R156,
92_eei_decisions.md D47, log 1, log 10, log 12, log 24). -/
def Obligations.EngineScanStep : Prop :=
  ∀ (s : State) (d : UnitDraw), EngineTurn s d .scan →
    (s.tasks.length ≤ s.cursor → step s = .next { s.drawn with phase := .passEnd }) ∧
    (∀ slot, s.tasks[s.cursor]? = some slot →
      (slot.delay = 0#16 → step s = .next { s.drawn with cursor := s.cursor + 1 }) ∧
      (slot.delay ≠ 0#16 → slot.delay.toNat ≤ s.roundTicks.toNat → step s = .next { s.drawn with
        tasks := s.tasks.set s.cursor { slot with delay := s.params.placeholderDelay }, phase := .inHandler,
        ctx := .taskCb s.cursor :: s.ctx, calls := s.calls ++ [.task s.cursor slot.handler],
        taskCode := none, taskCallI := s.iFlag }) ∧
      (s.roundTicks.toNat < slot.delay.toNat → ∃ left : Ticks,
        left.toNat = slot.delay.toNat - s.roundTicks.toNat ∧ step s = .next { s.drawn with
          tasks := s.tasks.set s.cursor { slot with delay := left }, cursor := s.cursor + 1 }))

/-- A task handler's return writes the delay and drains the ticks (42_scheduler.md R166, 70_reset_and_hazards.md
R331, log 1, log 12). -/
def Obligations.TaskReturnReschedules : Prop :=
  ∀ (s : State) (d : UnitDraw) (r : Ticks) (i : Nat) (rest : List Ctx) (slot : TaskSlot),
    TaskReturn s d r → s.ctx = .taskCb i :: rest → s.iFlag = true → s.tasks[i]? = some slot →
    ∃ next : Ticks, next.toNat = (s.nextTicks.toNat + s.tickDelta.toNat) % 2 ^ 16 ∧
      step s = .next { s.drawn with
        ctx := rest, tasks := s.tasks.set i { slot with delay := r }, nextTicks := next, tickDelta := 0#16,
        cursor := i + 1, phase := .scan }

/-- PASS_END starts another pass or goes on (R167). -/
def Obligations.EnginePassEndStep : Prop :=
  ∀ (s : State) (d : UnitDraw), EngineTurn s d .passEnd →
    (s.nextTicks ≠ 0#16 → step s = .next { s.drawn with
      roundTicks := s.nextTicks, nextTicks := 0#16, cursor := 0, phase := .scan }) ∧
    (s.nextTicks = 0#16 → step s = .next { s.drawn with phase := .busPoll })

/-- BUS_POLL polls the bus driver (R168). -/
def Obligations.EngineBusPollStep : Prop :=
  ∀ (s : State) (d : UnitDraw), EngineTurn s d .busPoll →
    (∀ q, s.busState = .idle → s.queue[s.rp]? = some q → q.handler ≠ 0#8 →
      ∃ code data n, step s = .next { started s.drawn q code data n with phase := .sleepCheck }) ∧
    (s.busState ≠ .idle ∨ FreeSlot s s.rp → step s = .next { s.drawn with phase := .sleepCheck })

/-- SLEEP_CHECK halts with interrupts enabled, or restores I and goes on (R272). -/
def Obligations.EngineSleepCheckStep : Prop :=
  ∀ (s : State) (d : UnitDraw), EngineTurn s d .sleepCheck →
    (s.pollPending = false → d.gate = true →
      step s = .next { s.drawn with iFlag := true, sleeping := true, phase := .halted }) ∧
    (s.pollPending = true ∨ d.gate = false → step s = .next { s.drawn with phase := .clear })

/-- No lost wakeup: an interrupt pending when the engine halts is taken at the unit's next step (45_sleep_gate.md
R270, 45_sleep_gate.md R274, 60_exceptions.md R292). -/
def Obligations.HaltTakesInterruptPendingAtCheck : Prop :=
  ∀ (s : State) (d1 d2 : UnitDraw) (rest : List Turn), EngineTurn s d1 .sleepCheck →
    s.script = .execUnit d1 :: .execUnit d2 :: rest → s.pollPending = false → d1.gate = true →
    (s.irqTick = true ∨ s.irqI2c = true ∨ s.irqOther = true) →
    ∃ t, core.run 2 s = .next t ∧ t.sleeping = false ∧ t.iFlag = false ∧
      (InCtx .isrTick t ∨ InCtx .isrI2c t ∨ InCtx .isrOther t) ∧ t.ctx.tail = s.ctx

/-- At the quiescent point only a device firing moves the machine (70_reset_and_hazards.md R325). -/
def Obligations.QuiescentUntilDeviceFires : Prop :=
  ∀ s t : State, s.quiescent = true → step s = .next t →
    t = s.drawn ∨ (s.nextTurn = .tickTimer ∧ t = { s.drawn with irqTick := true }) ∨
    (s.nextTurn = .otherDevice ∧ t = { s.drawn with irqOther := true })

/-- The engine has no step in IN_HANDLER, in HALTED or while the processor sleeps (a turn without a step is a
stutter: log 5) (42_scheduler.md R160, 10_state.md R24, log 5). Its first clause is met only by states that
`State.Inv` excludes. -/
def Obligations.EngineHasNoStepWhileWaiting : Prop :=
  ∀ (s : State) (d : UnitDraw),
    (EngineTurn s d .inHandler ∨ EngineTurn s d .halted → step s = .next s.drawn) ∧
    (s.fault = 0#8 → s.nextTurn = .execUnit d → s.sleeping = true →
      (s.iFlag = false ∨ (s.irqTick = false ∧ s.irqI2c = false ∧ s.irqOther = false)) → step s = .next s.drawn)

/-- A pass in which no task expires reduces every occupied task by the round's ticks (deduced for one put at CURSOR
= 0 during SCAN: log 24) (42_scheduler.md R163, 42_scheduler.md R170, 92_eei_decisions.md D47, log 24). -/
def Obligations.ScanPassReducesEveryTask : Prop :=
  ∀ (s : State) (d : UnitDraw) (rest : List Turn), s.fault = 0#8 → s.sleeping = false →
    (s.iFlag = false ∨ (s.irqTick = false ∧ s.irqI2c = false ∧ s.irqOther = false)) →
    InCtx .poll s → s.runActive = true → s.phase = .scan → s.cursor = 0 →
    (∀ slot ∈ s.tasks, slot.delay = 0#16 ∨ s.roundTicks.toNat < slot.delay.toNat) →
    s.script = List.replicate s.tasks.length (.execUnit d) ++ rest →
    core.run s.tasks.length s = .next { s with
      tasks := s.tasks.map (fun slot =>
        if slot.delay = 0#16 then slot else { slot with delay := slot.delay - s.roundTicks }),
      cursor := s.tasks.length, script := rest }

-- Devices

/-- The timer and the other devices set their pending bit; two firings merge (60_exceptions.md R291,
60_exceptions.md R300, 60_exceptions.md R305). -/
def Obligations.DeviceFiringsSetPendingBits : Prop :=
  ∀ s : State, s.fault = 0#8 →
    (s.nextTurn = .tickTimer → step s = .next { s.drawn with irqTick := true }) ∧
    (s.nextTurn = .otherDevice → step s = .next { s.drawn with irqOther := true }) ∧
    (∀ rest, s.script = .tickTimer :: .tickTimer :: rest →
      core.run 2 s = .next { s with irqTick := true, script := rest })

/-- The controller reports one event for a waited command, and none otherwise (the code reported: log 4; a turn it
may not take is no step: log 5) (60_exceptions.md R303, 60_exceptions.md R304, log 4, log 5). -/
def Obligations.ControllerReportsEvent : Prop :=
  ∀ (s : State) (ev : BusEvent) (b : Byte), s.fault = 0#8 → s.nextTurn = .controller ev b →
    (s.ctrlWait = true → s.params.controllerMode = .any → s.params.statusMap.event (s.params.statusMap.codeOf ev) = ev →
      step s = .next { s.drawn with
        ctrlCode := s.params.statusMap.codeOf ev, ctrlData := b, ctrlWait := false, irqI2c := true,
        busOwned := if ev = .startSent ∨ ev = .repStartSent then true
          else if ev = .arbLost ∨ ev = .busError then false else s.busOwned }) ∧
    (s.ctrlWait = false ∨ s.params.statusMap.event (s.params.statusMap.codeOf ev) ≠ ev → step s = .next s.drawn)

/-- In mode CONFORMING only the events of the waited command are reported (60_exceptions.md R303, 60_exceptions.md
R304, log 4, log 5, log 23). -/
def Obligations.ConformingControllerReports : Prop :=
  ∀ (s : State) (ev : BusEvent) (b : Byte), s.fault = 0#8 → s.nextTurn = .controller ev b →
    s.params.controllerMode = .conforming → s.ctrlWait = true →
    s.params.statusMap.event (s.params.statusMap.codeOf ev) = ev →
    (ev ∈ conformingEvents s → step s = .next { s.drawn with
      ctrlCode := s.params.statusMap.codeOf ev, ctrlData := b, ctrlWait := false, irqI2c := true,
      busOwned := if ev = .startSent ∨ ev = .repStartSent then true
        else if ev = .arbLost ∨ ev = .busError then false else s.busOwned }) ∧
    (ev ∉ conformingEvents s → step s = .next s.drawn)

-- Whole-machine rules

/-- Only CS_ENTER, CS_EXIT and WAIT change I, each to its own value (10_state.md R22, 10_state.md R46). -/
def Obligations.OnlyThreeOperationsWriteFlagI : Prop :=
  ∀ (i : Instr) (s t : State), exec i s = .next t → t.iFlag ≠ s.iFlag →
    (i = .csEnter ∧ t.iFlag = false) ∨ (∃ b, i = .csExit b ∧ t.iFlag = b) ∨ (i = .wait ∧ t.iFlag = true)

/-- The frame of every operation: engine registers, device bits, parameters and table sizes (10_state.md R23,
10_state.md R32, 10_state.md R33, 10_state.md R34, 10_state.md R46). -/
def Obligations.OperationsLeaveEngineAndDevicesAlone : Prop :=
  ∀ (i : Instr) (s t : State), exec i s = .next t →
    t.roundTicks = s.roundTicks ∧ t.nextTicks = s.nextTicks ∧ t.cursor = s.cursor ∧ t.irqTick = s.irqTick ∧
    t.irqOther = s.irqOther ∧ t.params = s.params ∧ t.isrBody = s.isrBody ∧ t.script = s.script ∧
    t.tasks.length = s.tasks.length ∧ t.queue.length = s.queue.length ∧
    (i ≠ .run → t.phase = s.phase ∧ t.runActive = s.runActive) ∧
    (i ≠ .tick → t.tickCount = s.tickCount ∧ t.tickDelta = s.tickDelta) ∧
    (t.sleeping ≠ s.sleeping → i = .wait)

/-- BUS_STATE changes only in the bus interrupt and in I2C_POLL (10_state.md R49, 44_i2c_fsm.md R246, log 1). -/
def Obligations.BusStateChangesOnlyInDriver : Prop :=
  ∀ s t : State, step s = .next t → t.busState ≠ s.busState →
    InCtx .isrI2c s ∨ InXfer s ∨ (InCtx .poll s ∧ s.phase = .busPoll) ∨
    (∃ d p w ws, s.nextTurn = .execUnit d ∧ (RunsBoot s d p ∨ RunsTask s d p) ∧ p.words = w :: ws ∧
      decode w = .ok .i2cPoll)

/-- The wire trace is only appended to, one symbol a step (10_state.md R45, 60_exceptions.md R302). -/
def Obligations.WireGrowsByAtMostOneSymbol : Prop :=
  ∀ s t : State, step s = .next t → ∃ w, t.wire = s.wire ++ w ∧ w.length ≤ 1

/-- No step changes the parameters or the table sizes, or clears RUN_ACTIVE (00_scope.md R6, 70_reset_and_hazards.md
R320, 10_state.md R32). -/
def Obligations.EveryStepKeepsParameters : Prop :=
  ∀ s t : State, step s = .next t →
    t.params = s.params ∧ t.tasks.length = s.tasks.length ∧ t.queue.length = s.queue.length ∧
    (s.runActive = true → t.runActive = true)

/-- Tick conservation: every counted tick stays in TICK_DELTA or NEXT_TICKS until a pass takes it (42_scheduler.md
R170, 42_scheduler.md R147, 42_scheduler.md R162, 42_scheduler.md R166, 42_scheduler.md R167). -/
def Obligations.TicksAreNeitherLostNorDoubled : Prop :=
  ∀ s t : State, s.Inv → step s = .next t →
    (t.tickDelta + t.nextTicks =
      s.tickDelta + s.nextTicks + (t.tickCount - s.tickCount).setWidth 16 ∧
      (t.roundTicks = s.roundTicks)) ∨
    (InCtx .poll s ∧ s.phase = .drain ∧ s.nextTicks = 0#16 ∧ t.roundTicks = s.tickDelta ∧ t.tickDelta = 0#16 ∧
      t.nextTicks = 0#16 ∧ t.tickCount = s.tickCount) ∨
    (InCtx .poll s ∧ s.phase = .passEnd ∧ t.roundTicks = s.nextTicks ∧ t.nextTicks = 0#16 ∧
      t.tickDelta = s.tickDelta ∧ t.tickCount = s.tickCount)

/-- Requests are appended after the run that starts at RP, and only the one at RP is started, freed or passed
(43_i2c_requests.md R190, 43_i2c_requests.md R191, 43_i2c_requests.md R200, 44_i2c_fsm.md R226, 10_state.md R50). -/
def Obligations.RequestsAreServedInQueueOrder : Prop :=
  (∀ (s : State) (addr : SlaveAddr) (rw : Bool) (h : Byte) (k : Nat),
    (InCtx .boot s ∨ InTask s ∨ InXfer s) → h ≠ 0#8 → s.rp < s.queue.length → s.ringRun k →
    (k < s.queue.length → ∃ t, exec (.i2cReq addr rw h) s = .next t ∧ t.ringRun (k + 1) ∧ t.rp = s.rp ∧
      t.queue[(s.rp + k) % s.queue.length]? = some ⟨addr, !rw, h⟩ ∧
      (∀ j, j ≠ (s.rp + k) % s.queue.length → t.queue[j]? = s.queue[j]?) ∧ t.result = .accepted true) ∧
    (k = s.queue.length → exec (.i2cReq addr rw h) s = .next { s with result := .accepted false })) ∧
  ∀ s t : State, s.Inv → step s = .next t →
    (∀ j q, j ≠ s.rp → s.queue[j]? = some q → q.handler ≠ 0#8 → t.queue[j]? = some q) ∧
    (t.rp ≠ s.rp ∨ (Occupied s s.rp ∧ FreeSlot t s.rp) →
      (InCtx .isrI2c s ∨ InXfer s) ∧ s.instantPend = false ∧ t.rp = (s.rp + 1) % s.queue.length ∧
      t.busState = .idle ∧ ∀ q, s.queue[s.rp]? = some q → t.queue[s.rp]? = some { q with handler := 0#8 }) ∧
    (∀ x, x = .s ∨ x = .sr → t.wire = s.wire ++ [x] →
      t.rp = s.rp ∧ ∃ q, s.queue[s.rp]? = some q ∧ q.handler ≠ 0#8 ∧ t.busState = if q.tx then .slaW else .slaR)

/-- SCHED_POLL, I2C_NACK, UNSCHED_TASK and I2C_POLL repeated change nothing more (20_memory.md R78). -/
def Obligations.RepeatingChangesNothing : Prop :=
  ∀ (i : Instr) (s t : State),
    (i = .schedPoll ∨ i = .i2cNack ∨ i = .i2cPoll ∨ ∃ id, i = .unschedTask id) →
    exec i s = .next t → exec i t = .next t

/-- The clean-entry states, the reset state among them, meet the invariant (70_reset_and_hazards.md R323,
10_state.md R50, 10_state.md R54). -/
def Obligations.CleanEntryMeetsInvariant : Prop :=
  State.reset.cleanEntry ∧ ∀ s : State, s.cleanEntry → 1 ≤ s.queue.length → s.Inv

/-- Every step to a state without a fault keeps the invariant (10_state.md R50, 41_critical_section.md R127,
60_exceptions.md R297, 45_sleep_gate.md R272, 42_scheduler.md R162, 42_scheduler.md R166, 42_scheduler.md R167). -/
def Obligations.EveryStepKeepsInvariant : Prop :=
  ∀ s t : State, s.Inv → step s = .next t → t.fault = 0#8 → t.Inv

/-- From an invariant state no step raises SPURIOUS_BUS_EVENT (44_i2c_fsm.md R231, 10_state.md R50). -/
def Obligations.BusEventsAreNeverSpurious : Prop :=
  ∀ s t : State, s.Inv → step s = .next t → t.fault ≠ 7#8

/-- The reset state has the value R54 gives every field (R54). -/
def Obligations.ResetLeavesSpecValues : Prop :=
  State.reset.ctx = [.boot] ∧ State.reset.iFlag = false ∧ State.reset.irqTick = false ∧
  State.reset.irqI2c = false ∧ State.reset.irqOther = false ∧ State.reset.sleeping = false ∧
  State.reset.fault = 0#8 ∧ (∀ slot ∈ State.reset.tasks, slot = ⟨0#16, 0#8⟩) ∧ State.reset.tickCount = 0#32 ∧
  State.reset.tickDelta = 0#16 ∧ State.reset.pollPending = false ∧ State.reset.runActive = false ∧
  State.reset.roundTicks = 0#16 ∧ State.reset.nextTicks = 0#16 ∧ State.reset.cursor = 0 ∧
  (∀ q ∈ State.reset.queue, q = ⟨0#7, false, 0#8⟩) ∧ State.reset.rp = 0 ∧ State.reset.busState = .idle ∧
  State.reset.nackReq = false ∧ State.reset.txPend = false ∧ State.reset.txData = 0#8 ∧
  State.reset.instantPend = false ∧ State.reset.ctrlWait = false ∧ State.reset.ctrlCmd = none ∧
  State.reset.busOwned = false ∧ State.reset.wire = []
end

