-- ==== Sys2Proof/Laws/State.lean ====
section
/-! SUPPORT. One lemma per field for each shared update of the state, true by unfolding: no later proof unfolds a
record update. -/

namespace Sys2Proof.Machine

variable (s : State)

section raise
variable (c : FaultCode)
@[simp] theorem State.raise_ctx : (s.raise c).ctx = s.ctx := rfl
@[simp] theorem State.raise_iFlag : (s.raise c).iFlag = s.iFlag := rfl
@[simp] theorem State.raise_irqTick : (s.raise c).irqTick = s.irqTick := rfl
@[simp] theorem State.raise_irqI2c : (s.raise c).irqI2c = s.irqI2c := rfl
@[simp] theorem State.raise_irqOther : (s.raise c).irqOther = s.irqOther := rfl
@[simp] theorem State.raise_sleeping : (s.raise c).sleeping = s.sleeping := rfl
@[simp] theorem State.raise_fault : (s.raise c).fault = if s.fault = 0#8 then c.code else s.fault := rfl
@[simp] theorem State.raise_tasks : (s.raise c).tasks = s.tasks := rfl
@[simp] theorem State.raise_tickCount : (s.raise c).tickCount = s.tickCount := rfl
@[simp] theorem State.raise_tickDelta : (s.raise c).tickDelta = s.tickDelta := rfl
@[simp] theorem State.raise_pollPending : (s.raise c).pollPending = s.pollPending := rfl
@[simp] theorem State.raise_runActive : (s.raise c).runActive = s.runActive := rfl
@[simp] theorem State.raise_phase : (s.raise c).phase = s.phase := rfl
@[simp] theorem State.raise_roundTicks : (s.raise c).roundTicks = s.roundTicks := rfl
@[simp] theorem State.raise_nextTicks : (s.raise c).nextTicks = s.nextTicks := rfl
@[simp] theorem State.raise_cursor : (s.raise c).cursor = s.cursor := rfl
@[simp] theorem State.raise_queue : (s.raise c).queue = s.queue := rfl
@[simp] theorem State.raise_rp : (s.raise c).rp = s.rp := rfl
@[simp] theorem State.raise_busState : (s.raise c).busState = s.busState := rfl
@[simp] theorem State.raise_nackReq : (s.raise c).nackReq = s.nackReq := rfl
@[simp] theorem State.raise_txPend : (s.raise c).txPend = s.txPend := rfl
@[simp] theorem State.raise_txData : (s.raise c).txData = s.txData := rfl
@[simp] theorem State.raise_instantPend : (s.raise c).instantPend = s.instantPend := rfl
@[simp] theorem State.raise_ctrlWait : (s.raise c).ctrlWait = s.ctrlWait := rfl
@[simp] theorem State.raise_ctrlCmd : (s.raise c).ctrlCmd = s.ctrlCmd := rfl
@[simp] theorem State.raise_ctrlCode : (s.raise c).ctrlCode = s.ctrlCode := rfl
@[simp] theorem State.raise_ctrlData : (s.raise c).ctrlData = s.ctrlData := rfl
@[simp] theorem State.raise_busOwned : (s.raise c).busOwned = s.busOwned := rfl
@[simp] theorem State.raise_wire : (s.raise c).wire = s.wire := rfl
@[simp] theorem State.raise_isrBody : (s.raise c).isrBody = s.isrBody := rfl
@[simp] theorem State.raise_bootCode : (s.raise c).bootCode = s.bootCode := rfl
@[simp] theorem State.raise_taskCode : (s.raise c).taskCode = s.taskCode := rfl
@[simp] theorem State.raise_xferCode : (s.raise c).xferCode = s.xferCode := rfl
@[simp] theorem State.raise_params : (s.raise c).params = s.params := rfl
@[simp] theorem State.raise_result : (s.raise c).result = s.result := rfl
@[simp] theorem State.raise_calls : (s.raise c).calls = s.calls := rfl
@[simp] theorem State.raise_brackets : (s.raise c).brackets = s.brackets := rfl
@[simp] theorem State.raise_taskCallI : (s.raise c).taskCallI = s.taskCallI := rfl
@[simp] theorem State.raise_script : (s.raise c).script = s.script := rfl
@[simp] theorem State.raise_draws : (s.raise c).draws = s.draws := rfl
end raise

section pop
@[simp] theorem State.pop_ctx : (s.pop).ctx = s.ctx.tail := rfl
@[simp] theorem State.pop_iFlag : (s.pop).iFlag = s.iFlag := rfl
@[simp] theorem State.pop_irqTick : (s.pop).irqTick = s.irqTick := rfl
@[simp] theorem State.pop_irqI2c : (s.pop).irqI2c = s.irqI2c := rfl
@[simp] theorem State.pop_irqOther : (s.pop).irqOther = s.irqOther := rfl
@[simp] theorem State.pop_sleeping : (s.pop).sleeping = s.sleeping := rfl
@[simp] theorem State.pop_fault : (s.pop).fault = s.fault := rfl
@[simp] theorem State.pop_tasks : (s.pop).tasks = s.tasks := rfl
@[simp] theorem State.pop_tickCount : (s.pop).tickCount = s.tickCount := rfl
@[simp] theorem State.pop_tickDelta : (s.pop).tickDelta = s.tickDelta := rfl
@[simp] theorem State.pop_pollPending : (s.pop).pollPending = s.pollPending := rfl
@[simp] theorem State.pop_runActive : (s.pop).runActive = s.runActive := rfl
@[simp] theorem State.pop_phase : (s.pop).phase = s.phase := rfl
@[simp] theorem State.pop_roundTicks : (s.pop).roundTicks = s.roundTicks := rfl
@[simp] theorem State.pop_nextTicks : (s.pop).nextTicks = s.nextTicks := rfl
@[simp] theorem State.pop_cursor : (s.pop).cursor = s.cursor := rfl
@[simp] theorem State.pop_queue : (s.pop).queue = s.queue := rfl
@[simp] theorem State.pop_rp : (s.pop).rp = s.rp := rfl
@[simp] theorem State.pop_busState : (s.pop).busState = s.busState := rfl
@[simp] theorem State.pop_nackReq : (s.pop).nackReq = s.nackReq := rfl
@[simp] theorem State.pop_txPend : (s.pop).txPend = s.txPend := rfl
@[simp] theorem State.pop_txData : (s.pop).txData = s.txData := rfl
@[simp] theorem State.pop_instantPend : (s.pop).instantPend = s.instantPend := rfl
@[simp] theorem State.pop_ctrlWait : (s.pop).ctrlWait = s.ctrlWait := rfl
@[simp] theorem State.pop_ctrlCmd : (s.pop).ctrlCmd = s.ctrlCmd := rfl
@[simp] theorem State.pop_ctrlCode : (s.pop).ctrlCode = s.ctrlCode := rfl
@[simp] theorem State.pop_ctrlData : (s.pop).ctrlData = s.ctrlData := rfl
@[simp] theorem State.pop_busOwned : (s.pop).busOwned = s.busOwned := rfl
@[simp] theorem State.pop_wire : (s.pop).wire = s.wire := rfl
@[simp] theorem State.pop_isrBody : (s.pop).isrBody = s.isrBody := rfl
@[simp] theorem State.pop_bootCode : (s.pop).bootCode = s.bootCode := rfl
@[simp] theorem State.pop_taskCode : (s.pop).taskCode = s.taskCode := rfl
@[simp] theorem State.pop_xferCode : (s.pop).xferCode = s.xferCode := rfl
@[simp] theorem State.pop_params : (s.pop).params = s.params := rfl
@[simp] theorem State.pop_result : (s.pop).result = s.result := rfl
@[simp] theorem State.pop_calls : (s.pop).calls = s.calls := rfl
@[simp] theorem State.pop_brackets : (s.pop).brackets = s.brackets := rfl
@[simp] theorem State.pop_taskCallI : (s.pop).taskCallI = s.taskCallI := rfl
@[simp] theorem State.pop_script : (s.pop).script = s.script := rfl
@[simp] theorem State.pop_draws : (s.pop).draws = s.draws := rfl
end pop

section returns
variable (r : Result)
@[simp] theorem State.returns_ctx : (s.returns r).ctx = s.ctx := rfl
@[simp] theorem State.returns_iFlag : (s.returns r).iFlag = s.iFlag := rfl
@[simp] theorem State.returns_irqTick : (s.returns r).irqTick = s.irqTick := rfl
@[simp] theorem State.returns_irqI2c : (s.returns r).irqI2c = s.irqI2c := rfl
@[simp] theorem State.returns_irqOther : (s.returns r).irqOther = s.irqOther := rfl
@[simp] theorem State.returns_sleeping : (s.returns r).sleeping = s.sleeping := rfl
@[simp] theorem State.returns_fault : (s.returns r).fault = s.fault := rfl
@[simp] theorem State.returns_tasks : (s.returns r).tasks = s.tasks := rfl
@[simp] theorem State.returns_tickCount : (s.returns r).tickCount = s.tickCount := rfl
@[simp] theorem State.returns_tickDelta : (s.returns r).tickDelta = s.tickDelta := rfl
@[simp] theorem State.returns_pollPending : (s.returns r).pollPending = s.pollPending := rfl
@[simp] theorem State.returns_runActive : (s.returns r).runActive = s.runActive := rfl
@[simp] theorem State.returns_phase : (s.returns r).phase = s.phase := rfl
@[simp] theorem State.returns_roundTicks : (s.returns r).roundTicks = s.roundTicks := rfl
@[simp] theorem State.returns_nextTicks : (s.returns r).nextTicks = s.nextTicks := rfl
@[simp] theorem State.returns_cursor : (s.returns r).cursor = s.cursor := rfl
@[simp] theorem State.returns_queue : (s.returns r).queue = s.queue := rfl
@[simp] theorem State.returns_rp : (s.returns r).rp = s.rp := rfl
@[simp] theorem State.returns_busState : (s.returns r).busState = s.busState := rfl
@[simp] theorem State.returns_nackReq : (s.returns r).nackReq = s.nackReq := rfl
@[simp] theorem State.returns_txPend : (s.returns r).txPend = s.txPend := rfl
@[simp] theorem State.returns_txData : (s.returns r).txData = s.txData := rfl
@[simp] theorem State.returns_instantPend : (s.returns r).instantPend = s.instantPend := rfl
@[simp] theorem State.returns_ctrlWait : (s.returns r).ctrlWait = s.ctrlWait := rfl
@[simp] theorem State.returns_ctrlCmd : (s.returns r).ctrlCmd = s.ctrlCmd := rfl
@[simp] theorem State.returns_ctrlCode : (s.returns r).ctrlCode = s.ctrlCode := rfl
@[simp] theorem State.returns_ctrlData : (s.returns r).ctrlData = s.ctrlData := rfl
@[simp] theorem State.returns_busOwned : (s.returns r).busOwned = s.busOwned := rfl
@[simp] theorem State.returns_wire : (s.returns r).wire = s.wire := rfl
@[simp] theorem State.returns_isrBody : (s.returns r).isrBody = s.isrBody := rfl
@[simp] theorem State.returns_bootCode : (s.returns r).bootCode = s.bootCode := rfl
@[simp] theorem State.returns_taskCode : (s.returns r).taskCode = s.taskCode := rfl
@[simp] theorem State.returns_xferCode : (s.returns r).xferCode = s.xferCode := rfl
@[simp] theorem State.returns_params : (s.returns r).params = s.params := rfl
@[simp] theorem State.returns_result : (s.returns r).result = r := rfl
@[simp] theorem State.returns_calls : (s.returns r).calls = s.calls := rfl
@[simp] theorem State.returns_brackets : (s.returns r).brackets = s.brackets := rfl
@[simp] theorem State.returns_taskCallI : (s.returns r).taskCallI = s.taskCallI := rfl
@[simp] theorem State.returns_script : (s.returns r).script = s.script := rfl
@[simp] theorem State.returns_draws : (s.returns r).draws = s.draws := rfl
end returns

section halt
@[simp] theorem State.halt_ctx : (s.halt).ctx = s.ctx := rfl
@[simp] theorem State.halt_iFlag : (s.halt).iFlag = true := rfl
@[simp] theorem State.halt_irqTick : (s.halt).irqTick = s.irqTick := rfl
@[simp] theorem State.halt_irqI2c : (s.halt).irqI2c = s.irqI2c := rfl
@[simp] theorem State.halt_irqOther : (s.halt).irqOther = s.irqOther := rfl
@[simp] theorem State.halt_sleeping : (s.halt).sleeping = true := rfl
@[simp] theorem State.halt_fault : (s.halt).fault = s.fault := rfl
@[simp] theorem State.halt_tasks : (s.halt).tasks = s.tasks := rfl
@[simp] theorem State.halt_tickCount : (s.halt).tickCount = s.tickCount := rfl
@[simp] theorem State.halt_tickDelta : (s.halt).tickDelta = s.tickDelta := rfl
@[simp] theorem State.halt_pollPending : (s.halt).pollPending = s.pollPending := rfl
@[simp] theorem State.halt_runActive : (s.halt).runActive = s.runActive := rfl
@[simp] theorem State.halt_phase : (s.halt).phase = s.phase := rfl
@[simp] theorem State.halt_roundTicks : (s.halt).roundTicks = s.roundTicks := rfl
@[simp] theorem State.halt_nextTicks : (s.halt).nextTicks = s.nextTicks := rfl
@[simp] theorem State.halt_cursor : (s.halt).cursor = s.cursor := rfl
@[simp] theorem State.halt_queue : (s.halt).queue = s.queue := rfl
@[simp] theorem State.halt_rp : (s.halt).rp = s.rp := rfl
@[simp] theorem State.halt_busState : (s.halt).busState = s.busState := rfl
@[simp] theorem State.halt_nackReq : (s.halt).nackReq = s.nackReq := rfl
@[simp] theorem State.halt_txPend : (s.halt).txPend = s.txPend := rfl
@[simp] theorem State.halt_txData : (s.halt).txData = s.txData := rfl
@[simp] theorem State.halt_instantPend : (s.halt).instantPend = s.instantPend := rfl
@[simp] theorem State.halt_ctrlWait : (s.halt).ctrlWait = s.ctrlWait := rfl
@[simp] theorem State.halt_ctrlCmd : (s.halt).ctrlCmd = s.ctrlCmd := rfl
@[simp] theorem State.halt_ctrlCode : (s.halt).ctrlCode = s.ctrlCode := rfl
@[simp] theorem State.halt_ctrlData : (s.halt).ctrlData = s.ctrlData := rfl
@[simp] theorem State.halt_busOwned : (s.halt).busOwned = s.busOwned := rfl
@[simp] theorem State.halt_wire : (s.halt).wire = s.wire := rfl
@[simp] theorem State.halt_isrBody : (s.halt).isrBody = s.isrBody := rfl
@[simp] theorem State.halt_bootCode : (s.halt).bootCode = s.bootCode := rfl
@[simp] theorem State.halt_taskCode : (s.halt).taskCode = s.taskCode := rfl
@[simp] theorem State.halt_xferCode : (s.halt).xferCode = s.xferCode := rfl
@[simp] theorem State.halt_params : (s.halt).params = s.params := rfl
@[simp] theorem State.halt_result : (s.halt).result = s.result := rfl
@[simp] theorem State.halt_calls : (s.halt).calls = s.calls := rfl
@[simp] theorem State.halt_brackets : (s.halt).brackets = s.brackets := rfl
@[simp] theorem State.halt_taskCallI : (s.halt).taskCallI = s.taskCallI := rfl
@[simp] theorem State.halt_script : (s.halt).script = s.script := rfl
@[simp] theorem State.halt_draws : (s.halt).draws = s.draws := rfl
end halt

section openBracket
@[simp] theorem State.openBracket_ctx : (s.openBracket).ctx = s.ctx := rfl
@[simp] theorem State.openBracket_iFlag : (s.openBracket).iFlag = s.iFlag := rfl
@[simp] theorem State.openBracket_irqTick : (s.openBracket).irqTick = s.irqTick := rfl
@[simp] theorem State.openBracket_irqI2c : (s.openBracket).irqI2c = s.irqI2c := rfl
@[simp] theorem State.openBracket_irqOther : (s.openBracket).irqOther = s.irqOther := rfl
@[simp] theorem State.openBracket_sleeping : (s.openBracket).sleeping = s.sleeping := rfl
@[simp] theorem State.openBracket_fault : (s.openBracket).fault = s.fault := rfl
@[simp] theorem State.openBracket_tasks : (s.openBracket).tasks = s.tasks := rfl
@[simp] theorem State.openBracket_tickCount : (s.openBracket).tickCount = s.tickCount := rfl
@[simp] theorem State.openBracket_tickDelta : (s.openBracket).tickDelta = s.tickDelta := rfl
@[simp] theorem State.openBracket_pollPending : (s.openBracket).pollPending = s.pollPending := rfl
@[simp] theorem State.openBracket_runActive : (s.openBracket).runActive = s.runActive := rfl
@[simp] theorem State.openBracket_phase : (s.openBracket).phase = s.phase := rfl
@[simp] theorem State.openBracket_roundTicks : (s.openBracket).roundTicks = s.roundTicks := rfl
@[simp] theorem State.openBracket_nextTicks : (s.openBracket).nextTicks = s.nextTicks := rfl
@[simp] theorem State.openBracket_cursor : (s.openBracket).cursor = s.cursor := rfl
@[simp] theorem State.openBracket_queue : (s.openBracket).queue = s.queue := rfl
@[simp] theorem State.openBracket_rp : (s.openBracket).rp = s.rp := rfl
@[simp] theorem State.openBracket_busState : (s.openBracket).busState = s.busState := rfl
@[simp] theorem State.openBracket_nackReq : (s.openBracket).nackReq = s.nackReq := rfl
@[simp] theorem State.openBracket_txPend : (s.openBracket).txPend = s.txPend := rfl
@[simp] theorem State.openBracket_txData : (s.openBracket).txData = s.txData := rfl
@[simp] theorem State.openBracket_instantPend : (s.openBracket).instantPend = s.instantPend := rfl
@[simp] theorem State.openBracket_ctrlWait : (s.openBracket).ctrlWait = s.ctrlWait := rfl
@[simp] theorem State.openBracket_ctrlCmd : (s.openBracket).ctrlCmd = s.ctrlCmd := rfl
@[simp] theorem State.openBracket_ctrlCode : (s.openBracket).ctrlCode = s.ctrlCode := rfl
@[simp] theorem State.openBracket_ctrlData : (s.openBracket).ctrlData = s.ctrlData := rfl
@[simp] theorem State.openBracket_busOwned : (s.openBracket).busOwned = s.busOwned := rfl
@[simp] theorem State.openBracket_wire : (s.openBracket).wire = s.wire := rfl
@[simp] theorem State.openBracket_isrBody : (s.openBracket).isrBody = s.isrBody := rfl
@[simp] theorem State.openBracket_bootCode : (s.openBracket).bootCode = s.bootCode := rfl
@[simp] theorem State.openBracket_taskCode : (s.openBracket).taskCode = s.taskCode := rfl
@[simp] theorem State.openBracket_xferCode : (s.openBracket).xferCode = s.xferCode := rfl
@[simp] theorem State.openBracket_params : (s.openBracket).params = s.params := rfl
@[simp] theorem State.openBracket_result : (s.openBracket).result = s.result := rfl
@[simp] theorem State.openBracket_calls : (s.openBracket).calls = s.calls := rfl
@[simp] theorem State.openBracket_brackets : (s.openBracket).brackets = { height := s.ctx.length, token := s.iFlag } :: s.brackets := rfl
@[simp] theorem State.openBracket_taskCallI : (s.openBracket).taskCallI = s.taskCallI := rfl
@[simp] theorem State.openBracket_script : (s.openBracket).script = s.script := rfl
@[simp] theorem State.openBracket_draws : (s.openBracket).draws = s.draws := rfl
end openBracket

section closeBracket
variable (t : Bool)
@[simp] theorem State.closeBracket_ctx : (s.closeBracket t).ctx = s.ctx := rfl
@[simp] theorem State.closeBracket_iFlag : (s.closeBracket t).iFlag = s.iFlag := rfl
@[simp] theorem State.closeBracket_irqTick : (s.closeBracket t).irqTick = s.irqTick := rfl
@[simp] theorem State.closeBracket_irqI2c : (s.closeBracket t).irqI2c = s.irqI2c := rfl
@[simp] theorem State.closeBracket_irqOther : (s.closeBracket t).irqOther = s.irqOther := rfl
@[simp] theorem State.closeBracket_sleeping : (s.closeBracket t).sleeping = s.sleeping := rfl
@[simp] theorem State.closeBracket_fault : (s.closeBracket t).fault = s.fault := rfl
@[simp] theorem State.closeBracket_tasks : (s.closeBracket t).tasks = s.tasks := rfl
@[simp] theorem State.closeBracket_tickCount : (s.closeBracket t).tickCount = s.tickCount := rfl
@[simp] theorem State.closeBracket_tickDelta : (s.closeBracket t).tickDelta = s.tickDelta := rfl
@[simp] theorem State.closeBracket_pollPending : (s.closeBracket t).pollPending = s.pollPending := rfl
@[simp] theorem State.closeBracket_runActive : (s.closeBracket t).runActive = s.runActive := rfl
@[simp] theorem State.closeBracket_phase : (s.closeBracket t).phase = s.phase := rfl
@[simp] theorem State.closeBracket_roundTicks : (s.closeBracket t).roundTicks = s.roundTicks := rfl
@[simp] theorem State.closeBracket_nextTicks : (s.closeBracket t).nextTicks = s.nextTicks := rfl
@[simp] theorem State.closeBracket_cursor : (s.closeBracket t).cursor = s.cursor := rfl
@[simp] theorem State.closeBracket_queue : (s.closeBracket t).queue = s.queue := rfl
@[simp] theorem State.closeBracket_rp : (s.closeBracket t).rp = s.rp := rfl
@[simp] theorem State.closeBracket_busState : (s.closeBracket t).busState = s.busState := rfl
@[simp] theorem State.closeBracket_nackReq : (s.closeBracket t).nackReq = s.nackReq := rfl
@[simp] theorem State.closeBracket_txPend : (s.closeBracket t).txPend = s.txPend := rfl
@[simp] theorem State.closeBracket_txData : (s.closeBracket t).txData = s.txData := rfl
@[simp] theorem State.closeBracket_instantPend : (s.closeBracket t).instantPend = s.instantPend := rfl
@[simp] theorem State.closeBracket_ctrlWait : (s.closeBracket t).ctrlWait = s.ctrlWait := rfl
@[simp] theorem State.closeBracket_ctrlCmd : (s.closeBracket t).ctrlCmd = s.ctrlCmd := rfl
@[simp] theorem State.closeBracket_ctrlCode : (s.closeBracket t).ctrlCode = s.ctrlCode := rfl
@[simp] theorem State.closeBracket_ctrlData : (s.closeBracket t).ctrlData = s.ctrlData := rfl
@[simp] theorem State.closeBracket_busOwned : (s.closeBracket t).busOwned = s.busOwned := rfl
@[simp] theorem State.closeBracket_wire : (s.closeBracket t).wire = s.wire := rfl
@[simp] theorem State.closeBracket_isrBody : (s.closeBracket t).isrBody = s.isrBody := rfl
@[simp] theorem State.closeBracket_bootCode : (s.closeBracket t).bootCode = s.bootCode := rfl
@[simp] theorem State.closeBracket_taskCode : (s.closeBracket t).taskCode = s.taskCode := rfl
@[simp] theorem State.closeBracket_xferCode : (s.closeBracket t).xferCode = s.xferCode := rfl
@[simp] theorem State.closeBracket_params : (s.closeBracket t).params = s.params := rfl
@[simp] theorem State.closeBracket_result : (s.closeBracket t).result = s.result := rfl
@[simp] theorem State.closeBracket_calls : (s.closeBracket t).calls = s.calls := rfl
@[simp] theorem State.closeBracket_taskCallI : (s.closeBracket t).taskCallI = s.taskCallI := rfl
@[simp] theorem State.closeBracket_script : (s.closeBracket t).script = s.script := rfl
@[simp] theorem State.closeBracket_draws : (s.closeBracket t).draws = s.draws := rfl
end closeBracket

section callTask
variable (i : Nat) (h : Byte)
@[simp] theorem State.callTask_ctx : (s.callTask i h).ctx = .taskCb i :: s.ctx := rfl
@[simp] theorem State.callTask_iFlag : (s.callTask i h).iFlag = s.iFlag := rfl
@[simp] theorem State.callTask_irqTick : (s.callTask i h).irqTick = s.irqTick := rfl
@[simp] theorem State.callTask_irqI2c : (s.callTask i h).irqI2c = s.irqI2c := rfl
@[simp] theorem State.callTask_irqOther : (s.callTask i h).irqOther = s.irqOther := rfl
@[simp] theorem State.callTask_sleeping : (s.callTask i h).sleeping = s.sleeping := rfl
@[simp] theorem State.callTask_fault : (s.callTask i h).fault = s.fault := rfl
@[simp] theorem State.callTask_tasks : (s.callTask i h).tasks = s.tasks := rfl
@[simp] theorem State.callTask_tickCount : (s.callTask i h).tickCount = s.tickCount := rfl
@[simp] theorem State.callTask_tickDelta : (s.callTask i h).tickDelta = s.tickDelta := rfl
@[simp] theorem State.callTask_pollPending : (s.callTask i h).pollPending = s.pollPending := rfl
@[simp] theorem State.callTask_runActive : (s.callTask i h).runActive = s.runActive := rfl
@[simp] theorem State.callTask_phase : (s.callTask i h).phase = s.phase := rfl
@[simp] theorem State.callTask_roundTicks : (s.callTask i h).roundTicks = s.roundTicks := rfl
@[simp] theorem State.callTask_nextTicks : (s.callTask i h).nextTicks = s.nextTicks := rfl
@[simp] theorem State.callTask_cursor : (s.callTask i h).cursor = s.cursor := rfl
@[simp] theorem State.callTask_queue : (s.callTask i h).queue = s.queue := rfl
@[simp] theorem State.callTask_rp : (s.callTask i h).rp = s.rp := rfl
@[simp] theorem State.callTask_busState : (s.callTask i h).busState = s.busState := rfl
@[simp] theorem State.callTask_nackReq : (s.callTask i h).nackReq = s.nackReq := rfl
@[simp] theorem State.callTask_txPend : (s.callTask i h).txPend = s.txPend := rfl
@[simp] theorem State.callTask_txData : (s.callTask i h).txData = s.txData := rfl
@[simp] theorem State.callTask_instantPend : (s.callTask i h).instantPend = s.instantPend := rfl
@[simp] theorem State.callTask_ctrlWait : (s.callTask i h).ctrlWait = s.ctrlWait := rfl
@[simp] theorem State.callTask_ctrlCmd : (s.callTask i h).ctrlCmd = s.ctrlCmd := rfl
@[simp] theorem State.callTask_ctrlCode : (s.callTask i h).ctrlCode = s.ctrlCode := rfl
@[simp] theorem State.callTask_ctrlData : (s.callTask i h).ctrlData = s.ctrlData := rfl
@[simp] theorem State.callTask_busOwned : (s.callTask i h).busOwned = s.busOwned := rfl
@[simp] theorem State.callTask_wire : (s.callTask i h).wire = s.wire := rfl
@[simp] theorem State.callTask_isrBody : (s.callTask i h).isrBody = s.isrBody := rfl
@[simp] theorem State.callTask_bootCode : (s.callTask i h).bootCode = s.bootCode := rfl
@[simp] theorem State.callTask_taskCode : (s.callTask i h).taskCode = none := rfl
@[simp] theorem State.callTask_xferCode : (s.callTask i h).xferCode = s.xferCode := rfl
@[simp] theorem State.callTask_params : (s.callTask i h).params = s.params := rfl
@[simp] theorem State.callTask_result : (s.callTask i h).result = s.result := rfl
@[simp] theorem State.callTask_calls : (s.callTask i h).calls = s.calls ++ [.task i h] := rfl
@[simp] theorem State.callTask_brackets : (s.callTask i h).brackets = s.brackets := rfl
@[simp] theorem State.callTask_taskCallI : (s.callTask i h).taskCallI = s.iFlag := rfl
@[simp] theorem State.callTask_script : (s.callTask i h).script = s.script := rfl
@[simp] theorem State.callTask_draws : (s.callTask i h).draws = s.draws := rfl
end callTask

section deliver
variable (st : Status) (d : Byte)
@[simp] theorem State.deliver_ctx : (s.deliver st d).ctx = .xferCb st :: s.ctx := rfl
@[simp] theorem State.deliver_iFlag : (s.deliver st d).iFlag = s.iFlag := rfl
@[simp] theorem State.deliver_irqTick : (s.deliver st d).irqTick = s.irqTick := rfl
@[simp] theorem State.deliver_irqI2c : (s.deliver st d).irqI2c = s.irqI2c := rfl
@[simp] theorem State.deliver_irqOther : (s.deliver st d).irqOther = s.irqOther := rfl
@[simp] theorem State.deliver_sleeping : (s.deliver st d).sleeping = s.sleeping := rfl
@[simp] theorem State.deliver_fault : (s.deliver st d).fault = s.fault := rfl
@[simp] theorem State.deliver_tasks : (s.deliver st d).tasks = s.tasks := rfl
@[simp] theorem State.deliver_tickCount : (s.deliver st d).tickCount = s.tickCount := rfl
@[simp] theorem State.deliver_tickDelta : (s.deliver st d).tickDelta = s.tickDelta := rfl
@[simp] theorem State.deliver_pollPending : (s.deliver st d).pollPending = s.pollPending := rfl
@[simp] theorem State.deliver_runActive : (s.deliver st d).runActive = s.runActive := rfl
@[simp] theorem State.deliver_phase : (s.deliver st d).phase = s.phase := rfl
@[simp] theorem State.deliver_roundTicks : (s.deliver st d).roundTicks = s.roundTicks := rfl
@[simp] theorem State.deliver_nextTicks : (s.deliver st d).nextTicks = s.nextTicks := rfl
@[simp] theorem State.deliver_cursor : (s.deliver st d).cursor = s.cursor := rfl
@[simp] theorem State.deliver_queue : (s.deliver st d).queue = s.queue := rfl
@[simp] theorem State.deliver_rp : (s.deliver st d).rp = s.rp := rfl
@[simp] theorem State.deliver_busState : (s.deliver st d).busState = s.busState := rfl
@[simp] theorem State.deliver_nackReq : (s.deliver st d).nackReq = s.nackReq := rfl
@[simp] theorem State.deliver_txPend : (s.deliver st d).txPend = s.txPend := rfl
@[simp] theorem State.deliver_txData : (s.deliver st d).txData = s.txData := rfl
@[simp] theorem State.deliver_instantPend : (s.deliver st d).instantPend = s.instantPend := rfl
@[simp] theorem State.deliver_ctrlWait : (s.deliver st d).ctrlWait = s.ctrlWait := rfl
@[simp] theorem State.deliver_ctrlCmd : (s.deliver st d).ctrlCmd = s.ctrlCmd := rfl
@[simp] theorem State.deliver_ctrlCode : (s.deliver st d).ctrlCode = s.ctrlCode := rfl
@[simp] theorem State.deliver_ctrlData : (s.deliver st d).ctrlData = s.ctrlData := rfl
@[simp] theorem State.deliver_busOwned : (s.deliver st d).busOwned = s.busOwned := rfl
@[simp] theorem State.deliver_wire : (s.deliver st d).wire = s.wire := rfl
@[simp] theorem State.deliver_isrBody : (s.deliver st d).isrBody = s.isrBody := rfl
@[simp] theorem State.deliver_bootCode : (s.deliver st d).bootCode = s.bootCode := rfl
@[simp] theorem State.deliver_taskCode : (s.deliver st d).taskCode = s.taskCode := rfl
@[simp] theorem State.deliver_xferCode : (s.deliver st d).xferCode = none := rfl
@[simp] theorem State.deliver_params : (s.deliver st d).params = s.params := rfl
@[simp] theorem State.deliver_result : (s.deliver st d).result = s.result := rfl
@[simp] theorem State.deliver_calls : (s.deliver st d).calls = s.calls ++ [.xfer s.active.handler st d] := rfl
@[simp] theorem State.deliver_brackets : (s.deliver st d).brackets = s.brackets := rfl
@[simp] theorem State.deliver_taskCallI : (s.deliver st d).taskCallI = s.taskCallI := rfl
@[simp] theorem State.deliver_script : (s.deliver st d).script = s.script := rfl
@[simp] theorem State.deliver_draws : (s.deliver st d).draws = s.draws := rfl
end deliver

section cmd
variable (c : Cmd)
@[simp] theorem State.cmd_ctx : (s.cmd c).ctx = s.ctx := rfl
@[simp] theorem State.cmd_iFlag : (s.cmd c).iFlag = s.iFlag := rfl
@[simp] theorem State.cmd_irqTick : (s.cmd c).irqTick = s.irqTick := rfl
@[simp] theorem State.cmd_irqI2c : (s.cmd c).irqI2c = false := rfl
@[simp] theorem State.cmd_irqOther : (s.cmd c).irqOther = s.irqOther := rfl
@[simp] theorem State.cmd_sleeping : (s.cmd c).sleeping = s.sleeping := rfl
@[simp] theorem State.cmd_fault : (s.cmd c).fault = s.fault := rfl
@[simp] theorem State.cmd_tasks : (s.cmd c).tasks = s.tasks := rfl
@[simp] theorem State.cmd_tickCount : (s.cmd c).tickCount = s.tickCount := rfl
@[simp] theorem State.cmd_tickDelta : (s.cmd c).tickDelta = s.tickDelta := rfl
@[simp] theorem State.cmd_pollPending : (s.cmd c).pollPending = s.pollPending := rfl
@[simp] theorem State.cmd_runActive : (s.cmd c).runActive = s.runActive := rfl
@[simp] theorem State.cmd_phase : (s.cmd c).phase = s.phase := rfl
@[simp] theorem State.cmd_roundTicks : (s.cmd c).roundTicks = s.roundTicks := rfl
@[simp] theorem State.cmd_nextTicks : (s.cmd c).nextTicks = s.nextTicks := rfl
@[simp] theorem State.cmd_cursor : (s.cmd c).cursor = s.cursor := rfl
@[simp] theorem State.cmd_queue : (s.cmd c).queue = s.queue := rfl
@[simp] theorem State.cmd_rp : (s.cmd c).rp = s.rp := rfl
@[simp] theorem State.cmd_busState : (s.cmd c).busState = s.busState := rfl
@[simp] theorem State.cmd_nackReq : (s.cmd c).nackReq = s.nackReq := rfl
@[simp] theorem State.cmd_txPend : (s.cmd c).txPend = s.txPend := rfl
@[simp] theorem State.cmd_txData : (s.cmd c).txData = s.txData := rfl
@[simp] theorem State.cmd_instantPend : (s.cmd c).instantPend = s.instantPend := rfl
@[simp] theorem State.cmd_ctrlWait : (s.cmd c).ctrlWait = decide (c ≠ .stop) := rfl
@[simp] theorem State.cmd_ctrlCmd : (s.cmd c).ctrlCmd = if c = .stop then none else some c := rfl
@[simp] theorem State.cmd_ctrlCode : (s.cmd c).ctrlCode = Config.freeByte s.draws := rfl
@[simp] theorem State.cmd_ctrlData : (s.cmd c).ctrlData = Config.freeByte (s.draws + 1) := rfl
@[simp] theorem State.cmd_busOwned : (s.cmd c).busOwned = if c = .stop then false else s.busOwned := rfl
@[simp] theorem State.cmd_wire : (s.cmd c).wire = s.wire ++ wireOf s.busOwned c := rfl
@[simp] theorem State.cmd_isrBody : (s.cmd c).isrBody = s.isrBody := rfl
@[simp] theorem State.cmd_bootCode : (s.cmd c).bootCode = s.bootCode := rfl
@[simp] theorem State.cmd_taskCode : (s.cmd c).taskCode = s.taskCode := rfl
@[simp] theorem State.cmd_xferCode : (s.cmd c).xferCode = s.xferCode := rfl
@[simp] theorem State.cmd_params : (s.cmd c).params = s.params := rfl
@[simp] theorem State.cmd_result : (s.cmd c).result = s.result := rfl
@[simp] theorem State.cmd_calls : (s.cmd c).calls = s.calls := rfl
@[simp] theorem State.cmd_brackets : (s.cmd c).brackets = s.brackets := rfl
@[simp] theorem State.cmd_taskCallI : (s.cmd c).taskCallI = s.taskCallI := rfl
@[simp] theorem State.cmd_script : (s.cmd c).script = s.script := rfl
@[simp] theorem State.cmd_draws : (s.cmd c).draws = s.draws + 2 := rfl
end cmd

section interruptExit
@[simp] theorem interruptExit_ctx : (interruptExit s).ctx = s.ctx.tail := rfl
@[simp] theorem interruptExit_iFlag : (interruptExit s).iFlag = true := rfl
@[simp] theorem interruptExit_irqTick : (interruptExit s).irqTick = s.irqTick := rfl
@[simp] theorem interruptExit_irqI2c : (interruptExit s).irqI2c = s.irqI2c := rfl
@[simp] theorem interruptExit_irqOther : (interruptExit s).irqOther = s.irqOther := rfl
@[simp] theorem interruptExit_sleeping : (interruptExit s).sleeping = s.sleeping := rfl
@[simp] theorem interruptExit_fault : (interruptExit s).fault = s.fault := rfl
@[simp] theorem interruptExit_tasks : (interruptExit s).tasks = s.tasks := rfl
@[simp] theorem interruptExit_tickCount : (interruptExit s).tickCount = s.tickCount := rfl
@[simp] theorem interruptExit_tickDelta : (interruptExit s).tickDelta = s.tickDelta := rfl
@[simp] theorem interruptExit_pollPending : (interruptExit s).pollPending = s.pollPending := rfl
@[simp] theorem interruptExit_runActive : (interruptExit s).runActive = s.runActive := rfl
@[simp] theorem interruptExit_phase : (interruptExit s).phase = if s.ctx.tail.head? = some .poll ∧ s.phase = .halted then .clear else s.phase := rfl
@[simp] theorem interruptExit_roundTicks : (interruptExit s).roundTicks = s.roundTicks := rfl
@[simp] theorem interruptExit_nextTicks : (interruptExit s).nextTicks = s.nextTicks := rfl
@[simp] theorem interruptExit_cursor : (interruptExit s).cursor = s.cursor := rfl
@[simp] theorem interruptExit_queue : (interruptExit s).queue = s.queue := rfl
@[simp] theorem interruptExit_rp : (interruptExit s).rp = s.rp := rfl
@[simp] theorem interruptExit_busState : (interruptExit s).busState = s.busState := rfl
@[simp] theorem interruptExit_nackReq : (interruptExit s).nackReq = s.nackReq := rfl
@[simp] theorem interruptExit_txPend : (interruptExit s).txPend = s.txPend := rfl
@[simp] theorem interruptExit_txData : (interruptExit s).txData = s.txData := rfl
@[simp] theorem interruptExit_instantPend : (interruptExit s).instantPend = s.instantPend := rfl
@[simp] theorem interruptExit_ctrlWait : (interruptExit s).ctrlWait = s.ctrlWait := rfl
@[simp] theorem interruptExit_ctrlCmd : (interruptExit s).ctrlCmd = s.ctrlCmd := rfl
@[simp] theorem interruptExit_ctrlCode : (interruptExit s).ctrlCode = s.ctrlCode := rfl
@[simp] theorem interruptExit_ctrlData : (interruptExit s).ctrlData = s.ctrlData := rfl
@[simp] theorem interruptExit_busOwned : (interruptExit s).busOwned = s.busOwned := rfl
@[simp] theorem interruptExit_wire : (interruptExit s).wire = s.wire := rfl
@[simp] theorem interruptExit_isrBody : (interruptExit s).isrBody = s.isrBody := rfl
@[simp] theorem interruptExit_bootCode : (interruptExit s).bootCode = s.bootCode := rfl
@[simp] theorem interruptExit_taskCode : (interruptExit s).taskCode = s.taskCode := rfl
@[simp] theorem interruptExit_xferCode : (interruptExit s).xferCode = s.xferCode := rfl
@[simp] theorem interruptExit_params : (interruptExit s).params = s.params := rfl
@[simp] theorem interruptExit_result : (interruptExit s).result = s.result := rfl
@[simp] theorem interruptExit_calls : (interruptExit s).calls = s.calls := rfl
@[simp] theorem interruptExit_brackets : (interruptExit s).brackets = s.brackets := rfl
@[simp] theorem interruptExit_taskCallI : (interruptExit s).taskCallI = s.taskCallI := rfl
@[simp] theorem interruptExit_script : (interruptExit s).script = s.script := rfl
@[simp] theorem interruptExit_draws : (interruptExit s).draws = s.draws := rfl
end interruptExit

section interruptEntry
variable (x : IrqSource)
@[simp] theorem interruptEntry_iFlag : (interruptEntry x s).iFlag = false := by cases x <;> rfl
@[simp] theorem interruptEntry_sleeping : (interruptEntry x s).sleeping = false := by cases x <;> rfl
@[simp] theorem interruptEntry_fault : (interruptEntry x s).fault = s.fault := by cases x <;> rfl
@[simp] theorem interruptEntry_tasks : (interruptEntry x s).tasks = s.tasks := by cases x <;> rfl
@[simp] theorem interruptEntry_tickCount : (interruptEntry x s).tickCount = s.tickCount := by cases x <;> rfl
@[simp] theorem interruptEntry_tickDelta : (interruptEntry x s).tickDelta = s.tickDelta := by cases x <;> rfl
@[simp] theorem interruptEntry_pollPending : (interruptEntry x s).pollPending = s.pollPending := by cases x <;> rfl
@[simp] theorem interruptEntry_runActive : (interruptEntry x s).runActive = s.runActive := by cases x <;> rfl
@[simp] theorem interruptEntry_phase : (interruptEntry x s).phase = s.phase := by cases x <;> rfl
@[simp] theorem interruptEntry_roundTicks : (interruptEntry x s).roundTicks = s.roundTicks := by cases x <;> rfl
@[simp] theorem interruptEntry_nextTicks : (interruptEntry x s).nextTicks = s.nextTicks := by cases x <;> rfl
@[simp] theorem interruptEntry_cursor : (interruptEntry x s).cursor = s.cursor := by cases x <;> rfl
@[simp] theorem interruptEntry_queue : (interruptEntry x s).queue = s.queue := by cases x <;> rfl
@[simp] theorem interruptEntry_rp : (interruptEntry x s).rp = s.rp := by cases x <;> rfl
@[simp] theorem interruptEntry_busState : (interruptEntry x s).busState = s.busState := by cases x <;> rfl
@[simp] theorem interruptEntry_nackReq : (interruptEntry x s).nackReq = s.nackReq := by cases x <;> rfl
@[simp] theorem interruptEntry_txPend : (interruptEntry x s).txPend = s.txPend := by cases x <;> rfl
@[simp] theorem interruptEntry_txData : (interruptEntry x s).txData = s.txData := by cases x <;> rfl
@[simp] theorem interruptEntry_instantPend : (interruptEntry x s).instantPend = s.instantPend := by cases x <;> rfl
@[simp] theorem interruptEntry_ctrlWait : (interruptEntry x s).ctrlWait = s.ctrlWait := by cases x <;> rfl
@[simp] theorem interruptEntry_ctrlCmd : (interruptEntry x s).ctrlCmd = s.ctrlCmd := by cases x <;> rfl
@[simp] theorem interruptEntry_ctrlCode : (interruptEntry x s).ctrlCode = s.ctrlCode := by cases x <;> rfl
@[simp] theorem interruptEntry_ctrlData : (interruptEntry x s).ctrlData = s.ctrlData := by cases x <;> rfl
@[simp] theorem interruptEntry_busOwned : (interruptEntry x s).busOwned = s.busOwned := by cases x <;> rfl
@[simp] theorem interruptEntry_wire : (interruptEntry x s).wire = s.wire := by cases x <;> rfl
@[simp] theorem interruptEntry_bootCode : (interruptEntry x s).bootCode = s.bootCode := by cases x <;> rfl
@[simp] theorem interruptEntry_taskCode : (interruptEntry x s).taskCode = s.taskCode := by cases x <;> rfl
@[simp] theorem interruptEntry_xferCode : (interruptEntry x s).xferCode = s.xferCode := by cases x <;> rfl
@[simp] theorem interruptEntry_params : (interruptEntry x s).params = s.params := by cases x <;> rfl
@[simp] theorem interruptEntry_result : (interruptEntry x s).result = s.result := by cases x <;> rfl
@[simp] theorem interruptEntry_calls : (interruptEntry x s).calls = s.calls := by cases x <;> rfl
@[simp] theorem interruptEntry_brackets : (interruptEntry x s).brackets = s.brackets := by cases x <;> rfl
@[simp] theorem interruptEntry_taskCallI : (interruptEntry x s).taskCallI = s.taskCallI := by cases x <;> rfl
@[simp] theorem interruptEntry_script : (interruptEntry x s).script = s.script := by cases x <;> rfl
@[simp] theorem interruptEntry_draws : (interruptEntry x s).draws = s.draws := by cases x <;> rfl
end interruptEntry

section drawn
@[simp] theorem State.drawn_ctx : s.drawn.ctx = s.ctx := by unfold State.drawn; split <;> rfl
@[simp] theorem State.drawn_iFlag : s.drawn.iFlag = s.iFlag := by unfold State.drawn; split <;> rfl
@[simp] theorem State.drawn_irqTick : s.drawn.irqTick = s.irqTick := by unfold State.drawn; split <;> rfl
@[simp] theorem State.drawn_irqI2c : s.drawn.irqI2c = s.irqI2c := by unfold State.drawn; split <;> rfl
@[simp] theorem State.drawn_irqOther : s.drawn.irqOther = s.irqOther := by unfold State.drawn; split <;> rfl
@[simp] theorem State.drawn_sleeping : s.drawn.sleeping = s.sleeping := by unfold State.drawn; split <;> rfl
@[simp] theorem State.drawn_fault : s.drawn.fault = s.fault := by unfold State.drawn; split <;> rfl
@[simp] theorem State.drawn_tasks : s.drawn.tasks = s.tasks := by unfold State.drawn; split <;> rfl
@[simp] theorem State.drawn_tickCount : s.drawn.tickCount = s.tickCount := by unfold State.drawn; split <;> rfl
@[simp] theorem State.drawn_tickDelta : s.drawn.tickDelta = s.tickDelta := by unfold State.drawn; split <;> rfl
@[simp] theorem State.drawn_pollPending : s.drawn.pollPending = s.pollPending := by unfold State.drawn; split <;> rfl
@[simp] theorem State.drawn_runActive : s.drawn.runActive = s.runActive := by unfold State.drawn; split <;> rfl
@[simp] theorem State.drawn_phase : s.drawn.phase = s.phase := by unfold State.drawn; split <;> rfl
@[simp] theorem State.drawn_roundTicks : s.drawn.roundTicks = s.roundTicks := by unfold State.drawn; split <;> rfl
@[simp] theorem State.drawn_nextTicks : s.drawn.nextTicks = s.nextTicks := by unfold State.drawn; split <;> rfl
@[simp] theorem State.drawn_cursor : s.drawn.cursor = s.cursor := by unfold State.drawn; split <;> rfl
@[simp] theorem State.drawn_queue : s.drawn.queue = s.queue := by unfold State.drawn; split <;> rfl
@[simp] theorem State.drawn_rp : s.drawn.rp = s.rp := by unfold State.drawn; split <;> rfl
@[simp] theorem State.drawn_busState : s.drawn.busState = s.busState := by unfold State.drawn; split <;> rfl
@[simp] theorem State.drawn_nackReq : s.drawn.nackReq = s.nackReq := by unfold State.drawn; split <;> rfl
@[simp] theorem State.drawn_txPend : s.drawn.txPend = s.txPend := by unfold State.drawn; split <;> rfl
@[simp] theorem State.drawn_txData : s.drawn.txData = s.txData := by unfold State.drawn; split <;> rfl
@[simp] theorem State.drawn_instantPend : s.drawn.instantPend = s.instantPend := by unfold State.drawn; split <;> rfl
@[simp] theorem State.drawn_ctrlWait : s.drawn.ctrlWait = s.ctrlWait := by unfold State.drawn; split <;> rfl
@[simp] theorem State.drawn_ctrlCmd : s.drawn.ctrlCmd = s.ctrlCmd := by unfold State.drawn; split <;> rfl
@[simp] theorem State.drawn_ctrlCode : s.drawn.ctrlCode = s.ctrlCode := by unfold State.drawn; split <;> rfl
@[simp] theorem State.drawn_ctrlData : s.drawn.ctrlData = s.ctrlData := by unfold State.drawn; split <;> rfl
@[simp] theorem State.drawn_busOwned : s.drawn.busOwned = s.busOwned := by unfold State.drawn; split <;> rfl
@[simp] theorem State.drawn_wire : s.drawn.wire = s.wire := by unfold State.drawn; split <;> rfl
@[simp] theorem State.drawn_isrBody : s.drawn.isrBody = s.isrBody := by unfold State.drawn; split <;> rfl
@[simp] theorem State.drawn_bootCode : s.drawn.bootCode = s.bootCode := by unfold State.drawn; split <;> rfl
@[simp] theorem State.drawn_taskCode : s.drawn.taskCode = s.taskCode := by unfold State.drawn; split <;> rfl
@[simp] theorem State.drawn_xferCode : s.drawn.xferCode = s.xferCode := by unfold State.drawn; split <;> rfl
@[simp] theorem State.drawn_params : s.drawn.params = s.params := by unfold State.drawn; split <;> rfl
@[simp] theorem State.drawn_result : s.drawn.result = s.result := by unfold State.drawn; split <;> rfl
@[simp] theorem State.drawn_calls : s.drawn.calls = s.calls := by unfold State.drawn; split <;> rfl
@[simp] theorem State.drawn_brackets : s.drawn.brackets = s.brackets := by unfold State.drawn; split <;> rfl
@[simp] theorem State.drawn_taskCallI : s.drawn.taskCallI = s.taskCallI := by unfold State.drawn; split <;> rfl
end drawn

section withCode
variable (p : Program)
@[simp] theorem State.withCode_ctx : (s.withCode p).ctx = s.ctx := by unfold State.withCode; split <;> rfl
@[simp] theorem State.withCode_iFlag : (s.withCode p).iFlag = s.iFlag := by unfold State.withCode; split <;> rfl
@[simp] theorem State.withCode_irqTick : (s.withCode p).irqTick = s.irqTick := by unfold State.withCode; split <;> rfl
@[simp] theorem State.withCode_irqI2c : (s.withCode p).irqI2c = s.irqI2c := by unfold State.withCode; split <;> rfl
@[simp] theorem State.withCode_irqOther : (s.withCode p).irqOther = s.irqOther := by unfold State.withCode; split <;> rfl
@[simp] theorem State.withCode_sleeping : (s.withCode p).sleeping = s.sleeping := by unfold State.withCode; split <;> rfl
@[simp] theorem State.withCode_fault : (s.withCode p).fault = s.fault := by unfold State.withCode; split <;> rfl
@[simp] theorem State.withCode_tasks : (s.withCode p).tasks = s.tasks := by unfold State.withCode; split <;> rfl
@[simp] theorem State.withCode_tickCount : (s.withCode p).tickCount = s.tickCount := by unfold State.withCode; split <;> rfl
@[simp] theorem State.withCode_tickDelta : (s.withCode p).tickDelta = s.tickDelta := by unfold State.withCode; split <;> rfl
@[simp] theorem State.withCode_pollPending : (s.withCode p).pollPending = s.pollPending := by unfold State.withCode; split <;> rfl
@[simp] theorem State.withCode_runActive : (s.withCode p).runActive = s.runActive := by unfold State.withCode; split <;> rfl
@[simp] theorem State.withCode_phase : (s.withCode p).phase = s.phase := by unfold State.withCode; split <;> rfl
@[simp] theorem State.withCode_roundTicks : (s.withCode p).roundTicks = s.roundTicks := by unfold State.withCode; split <;> rfl
@[simp] theorem State.withCode_nextTicks : (s.withCode p).nextTicks = s.nextTicks := by unfold State.withCode; split <;> rfl
@[simp] theorem State.withCode_cursor : (s.withCode p).cursor = s.cursor := by unfold State.withCode; split <;> rfl
@[simp] theorem State.withCode_queue : (s.withCode p).queue = s.queue := by unfold State.withCode; split <;> rfl
@[simp] theorem State.withCode_rp : (s.withCode p).rp = s.rp := by unfold State.withCode; split <;> rfl
@[simp] theorem State.withCode_busState : (s.withCode p).busState = s.busState := by unfold State.withCode; split <;> rfl
@[simp] theorem State.withCode_nackReq : (s.withCode p).nackReq = s.nackReq := by unfold State.withCode; split <;> rfl
@[simp] theorem State.withCode_txPend : (s.withCode p).txPend = s.txPend := by unfold State.withCode; split <;> rfl
@[simp] theorem State.withCode_txData : (s.withCode p).txData = s.txData := by unfold State.withCode; split <;> rfl
@[simp] theorem State.withCode_instantPend : (s.withCode p).instantPend = s.instantPend := by unfold State.withCode; split <;> rfl
@[simp] theorem State.withCode_ctrlWait : (s.withCode p).ctrlWait = s.ctrlWait := by unfold State.withCode; split <;> rfl
@[simp] theorem State.withCode_ctrlCmd : (s.withCode p).ctrlCmd = s.ctrlCmd := by unfold State.withCode; split <;> rfl
@[simp] theorem State.withCode_ctrlCode : (s.withCode p).ctrlCode = s.ctrlCode := by unfold State.withCode; split <;> rfl
@[simp] theorem State.withCode_ctrlData : (s.withCode p).ctrlData = s.ctrlData := by unfold State.withCode; split <;> rfl
@[simp] theorem State.withCode_busOwned : (s.withCode p).busOwned = s.busOwned := by unfold State.withCode; split <;> rfl
@[simp] theorem State.withCode_wire : (s.withCode p).wire = s.wire := by unfold State.withCode; split <;> rfl
@[simp] theorem State.withCode_isrBody : (s.withCode p).isrBody = s.isrBody := by unfold State.withCode; split <;> rfl
@[simp] theorem State.withCode_params : (s.withCode p).params = s.params := by unfold State.withCode; split <;> rfl
@[simp] theorem State.withCode_result : (s.withCode p).result = s.result := by unfold State.withCode; split <;> rfl
@[simp] theorem State.withCode_calls : (s.withCode p).calls = s.calls := by unfold State.withCode; split <;> rfl
@[simp] theorem State.withCode_brackets : (s.withCode p).brackets = s.brackets := by unfold State.withCode; split <;> rfl
@[simp] theorem State.withCode_taskCallI : (s.withCode p).taskCallI = s.taskCallI := by unfold State.withCode; split <;> rfl
@[simp] theorem State.withCode_script : (s.withCode p).script = s.script := by unfold State.withCode; split <;> rfl
@[simp] theorem State.withCode_draws : (s.withCode p).draws = s.draws := by unfold State.withCode; split <;> rfl
end withCode

end Sys2Proof.Machine
end

