-- ==== Sys2Proof/Laws/Ops.lean ====
section
/-! SUPPORT. What each shared operation can do, said once. -/

namespace Sys2Proof.Machine

/-- The fields no bus-driver operation writes (20_memory.md R76), and the bound on the wire (10_state.md R45). -/
structure DriverFrame (s t : State) : Prop where
  ctx : t.ctx = s.ctx
  iFlag : t.iFlag = s.iFlag
  irqTick : t.irqTick = s.irqTick
  irqOther : t.irqOther = s.irqOther
  sleeping : t.sleeping = s.sleeping
  fault : t.fault = s.fault
  tasks : t.tasks = s.tasks
  tickCount : t.tickCount = s.tickCount
  tickDelta : t.tickDelta = s.tickDelta
  pollPending : t.pollPending = s.pollPending
  runActive : t.runActive = s.runActive
  phase : t.phase = s.phase
  roundTicks : t.roundTicks = s.roundTicks
  nextTicks : t.nextTicks = s.nextTicks
  cursor : t.cursor = s.cursor
  queueLength : t.queue.length = s.queue.length
  txData : t.txData = s.txData
  isrBody : t.isrBody = s.isrBody
  bootCode : t.bootCode = s.bootCode
  taskCode : t.taskCode = s.taskCode
  xferCode : t.xferCode = s.xferCode
  params : t.params = s.params
  result : t.result = s.result
  calls : t.calls = s.calls
  brackets : t.brackets = s.brackets
  taskCallI : t.taskCallI = s.taskCallI
  script : t.script = s.script
  wire : ∃ w, t.wire = s.wire ++ w ∧ w.length ≤ 1

theorem wireOf_length (owned : Bool) (c : Cmd) : (wireOf owned c).length ≤ 1 := by
  cases c <;> cases owned <;> simp [wireOf]

theorem startTransfer_frame (s : State) : DriverFrame s s.startTransfer := by
  constructor <;> first | rfl | exact ⟨_, rfl, wireOf_length _ _⟩

theorem closeTransfer_frame (s : State) : DriverFrame s s.closeTransfer := by
  unfold State.closeTransfer
  split
  · constructor <;> first | rfl | exact ⟨_, rfl, wireOf_length _ _⟩
  · constructor <;> first | rfl | exact ⟨_, rfl, wireOf_length _ _⟩ | simp

theorem busPoll_frame (s : State) : DriverFrame s s.busPoll := by
  unfold State.busPoll
  split
  · exact startTransfer_frame s
  · constructor <;> first | rfl | exact ⟨[], by simp, by simp⟩

theorem writeAnswer_frame (s : State) (r : Bool) : DriverFrame s (s.writeAnswer r) := by
  unfold State.writeAnswer
  split
  · constructor <;> first | rfl | exact ⟨_, rfl, wireOf_length _ _⟩
  · exact closeTransfer_frame s

theorem readAnswer_frame (s : State) (r : Bool) : DriverFrame s (s.readAnswer r) := by
  unfold State.readAnswer
  split <;> constructor <;> first | rfl | exact ⟨_, rfl, wireOf_length _ _⟩

theorem afterHandler_frame (s : State) (st : Status) (r : Bool) : DriverFrame s (s.afterHandler st r) := by
  cases st <;> first
    | exact writeAnswer_frame s r
    | exact readAnswer_frame s r
    | exact closeTransfer_frame s

theorem sendAddress_frame (s : State) (next : BusState) : DriverFrame s (s.sendAddress next) := by
  constructor <;> first | rfl | exact ⟨_, rfl, wireOf_length _ _⟩

/-- Between `s` and `t` the driver gave the controller the one command `c` (60_exceptions.md R302), and is idle exactly
when that was STOP (44_i2c_fsm.md R226, R245). -/
structure Gave (s t : State) (c : Cmd) : Prop where
  irqI2c : t.irqI2c = false
  wire : t.wire = s.wire ++ wireOf s.busOwned c
  ctrlCmd : t.ctrlCmd = if c = .stop then none else some c
  ctrlWait : t.ctrlWait = decide (c ≠ .stop)
  busOwned : t.busOwned = if c = .stop then false else s.busOwned
  idle : t.busState = .idle ↔ c = .stop

theorem startTransfer_gave (s : State) : Gave s s.startTransfer .start := by
  constructor <;> first | rfl | (cases h : s.active.tx <;> simp [State.startTransfer, h])

theorem closeTransfer_gave (s : State) : ∃ c, Gave s s.closeTransfer c := by
  unfold State.closeTransfer
  split
  · have h := startTransfer_gave { s with instantPend := false }
    exact ⟨.start, h.irqI2c, h.wire, h.ctrlCmd, h.ctrlWait, h.busOwned, h.idle⟩
  · exact ⟨.stop, by constructor <;> simp⟩

theorem sendAddress_gave (s : State) {next : BusState} (h : next ≠ .idle) :
    Gave s (s.sendAddress next) (.send s.active.sla) := by
  constructor <;> simp [State.sendAddress, h]

theorem afterHandler_gave (s : State) (st : Status) (r : Bool) : ∃ c, Gave s (s.afterHandler st r) c := by
  have w : ∃ c, Gave s (s.writeAnswer r) c := by
    unfold State.writeAnswer
    split
    · exact ⟨.send s.txData, by constructor <;> simp⟩
    · exact closeTransfer_gave s
  have rd : ∃ c, Gave s (s.readAnswer r) c := by
    unfold State.readAnswer
    split
    · exact ⟨if s.nackReq then .recvNack else .recvAck, by cases h : s.nackReq <;> constructor <;> simp⟩
    · exact ⟨.recvNack, by constructor <;> simp⟩
  cases st <;> first
    | exact w
    | exact rd
    | exact closeTransfer_gave s

/-- A command leaves the controller waiting exactly when the driver is not idle (44_i2c_fsm.md R245). -/
structure Commanded (t : State) : Prop where
  irqI2c : t.irqI2c = false
  waits : t.ctrlWait = true ↔ t.busState ≠ .idle

theorem Gave.commanded {s t : State} {c : Cmd} (h : Gave s t c) : Commanded t :=
  ⟨h.irqI2c, by simp [h.ctrlWait, h.idle]⟩

theorem startTransfer_commanded (s : State) : Commanded s.startTransfer := (startTransfer_gave s).commanded

theorem closeTransfer_commanded (s : State) : Commanded s.closeTransfer := (closeTransfer_gave s).elim fun _ h => h.commanded

theorem afterHandler_commanded (s : State) (st : Status) (r : Bool) : Commanded (s.afterHandler st r) :=
  (afterHandler_gave s st r).elim fun _ h => h.commanded

/-- A row of the transition table faults in `IDLE`, and otherwise gives one command or calls the handler
(44_i2c_fsm.md R230, R245). -/
theorem busRow_cases (s : State) (ev : BusEvent) (b : Byte) :
    (s.busState = .idle ∧ s.busRow ev b = s.raise .spuriousBusEvent) ∨
    (s.busState ≠ .idle ∧ ∃ next, next ≠ .idle ∧ s.busRow ev b = s.sendAddress next) ∨
    (s.busState = .closingRead ∧ s.busRow ev b = s.closeTransfer) ∨
    (s.busState ≠ .idle ∧ ∃ st d, s.busRow ev b = s.deliver st d) ∨
    (s.busState ≠ .idle ∧ ∃ st d, s.busRow ev b = { s with txPend := false }.deliver st d) := by
  unfold State.busRow
  split <;> rename_i h
  · exact .inl ⟨h, rfl⟩
  all_goals
    repeat' split
    all_goals first
      | exact .inr (.inl ⟨by simp [h], _, by simp, rfl⟩)
      | exact .inr (.inr (.inl ⟨h, rfl⟩))
      | exact .inr (.inr (.inr (.inl ⟨by simp [h], _, _, rfl⟩)))
      | exact .inr (.inr (.inr (.inr ⟨by simp [h], _, _, rfl⟩)))

/-- The source taken is a pending one when any is (60_exceptions.md R292). -/
theorem pickIrq_pending (s : State) (x : IrqSource) (h : s.anyIrq = true) : s.irq (s.pickIrq x) = true := by
  unfold State.pickIrq
  split
  · assumption
  · split
    · simpa [State.irq] using ‹_›
    · split
      · simpa [State.irq] using ‹_›
      · simp_all [State.anyIrq, State.irq]

/-- Entry pushes the source's context, with `I = 0` and its pending bit clear (60_exceptions.md R293). -/
theorem interruptEntry_ctx (x : IrqSource) (s : State) :
    ∃ c, Ctx.isIsr c = true ∧ (interruptEntry x s).ctx = c :: s.ctx ∧
      (c = .isrTick → (interruptEntry x s).isrBody = [tickWord]) ∧
      (c = .isrI2c → x = .i2c ∧ (interruptEntry x s).isrBody = [s.eventWord]) := by
  cases x
  · exact ⟨.isrTick, rfl, rfl, by simp [interruptEntry], by simp⟩
  · exact ⟨.isrI2c, rfl, rfl, by simp, by simp [interruptEntry]⟩
  · exact ⟨.isrOther, rfl, rfl, by simp, by simp⟩

/-- Changing an existing entry in place sets it. -/
theorem modify_eq_set {α : Type} {l : List α} {i : Nat} {x : α} {f : α → α} (h : l[i]? = some x) :
    l.modify i f = l.set i (f x) := by
  apply List.ext_getElem?
  intro j
  rw [List.getElem?_modify, List.getElem?_set]
  by_cases hj : i = j
  · subst hj
    obtain ⟨hl, he⟩ := List.getElem?_eq_some_iff.1 h
    simp [hl, he]
  · simp [hj]

theorem active_eq {s : State} {q : Request} (h : s.queue[s.rp]? = some q) : s.active = q := by
  simp [State.active, List.getD, h]

theorem legalBase_iff (l : List Ctx) :
    legalBase l = true ↔ l = [.boot] ∨ l = [.poll] ∨ ∃ i, l = [.taskCb i, .poll] := by
  unfold legalBase
  split <;> simp_all

/-- A legal context stack is a legal base, with an interrupt on it or not, and with a transfer handler on the bus
interrupt or not. -/
theorem legalStack_iff (l : List Ctx) :
    legalStack l = true ↔ ∃ base, legalBase base = true ∧
      (l = base ∨ l = .isrTick :: base ∨ l = .isrI2c :: base ∨ l = .isrOther :: base ∨
        ∃ st, l = .xferCb st :: .isrI2c :: base) := by
  constructor
  · intro h
    unfold legalStack at h
    split at h <;> exact ⟨_, h, by simp⟩
  · rintro ⟨base, hb, rfl | rfl | rfl | rfl | ⟨st, rfl⟩⟩
    · rcases (legalBase_iff l).1 hb with rfl | rfl | ⟨i, rfl⟩ <;> rfl
    all_goals exact hb

@[simp] theorem State.drawn_irq (s : State) (x : IrqSource) : s.drawn.irq x = s.irq x := by
  cases x <;> simp [State.irq]

@[simp] theorem State.drawn_anyIrq (s : State) : s.drawn.anyIrq = s.anyIrq := by simp [State.anyIrq]

@[simp] theorem State.drawn_pickIrq (s : State) (x : IrqSource) : s.drawn.pickIrq x = s.pickIrq x := by
  simp [State.pickIrq]

@[simp] theorem State.drawn_active (s : State) : s.drawn.active = s.active := by simp [State.active]

@[simp] theorem State.drawn_code (s : State) : s.drawn.code = s.code := by simp [State.code]


end Sys2Proof.Machine
end

