-- ==== Sys2Proof/Laws/PerInstr.lean ====
section
/-! SUPPORT. Statements made per instruction: the operation word of each carries the `OPC` of its row of the operation
map and no reserved bit (30_encoding.md R91, R92). -/

namespace Sys2Proof

theorem opcOf_or (a b : Word) : opcOf (a ||| b) = opcOf a ||| opcOf b := by
  ext i hi
  simp [opcOf]

/-- A field below bit 27 has no `OPC` bit. -/
theorem opcOf_low {w : Word} (h : w.toNat < 2 ^ 27) : opcOf w = 0#5 := by
  apply BitVec.eq_of_toNat_eq
  simp [opcOf, Nat.shiftRight_eq_div_pow]
  omega

theorem or_and_zero {a b m : Word} (ha : a &&& m = 0#32) (hb : b &&& m = 0#32) : (a ||| b) &&& m = 0#32 := by
  rw [BitVec.and_or_distrib_right, ha, hb]
  rfl

/-- Every operand field stays below bit 24, where it has no `OPC` bit. -/
theorem toNat_setWidth_lt {n : Nat} (x : BitVec n) (hn : n ≤ 16) : (x.setWidth 32).toNat < 2 ^ 16 := by
  have := x.isLt
  have : 2 ^ n ≤ 2 ^ 16 := Nat.pow_le_pow_right (by omega) hn
  simp only [BitVec.toNat_setWidth]
  omega

theorem toNat_shift_lt {n k : Nat} (x : BitVec n) (hn : n ≤ 8) (hk : k ≤ 16) :
    (x.setWidth 32 <<< k).toNat < 2 ^ 24 := by
  have h1 := x.isLt
  have h2 : 2 ^ n ≤ 2 ^ 8 := Nat.pow_le_pow_right (by omega) hn
  have h3 : 2 ^ k ≤ 2 ^ 16 := Nat.pow_le_pow_right (by omega) hk
  have h4 : x.toNat * 2 ^ k < 2 ^ 8 * 2 ^ 16 :=
    Nat.lt_of_lt_of_le (Nat.mul_lt_mul_of_pos_right (by omega) (Nat.two_pow_pos k)) (Nat.mul_le_mul_left _ h3)
  simp only [BitVec.toNat_shiftLeft, BitVec.toNat_setWidth, Nat.shiftLeft_eq]
  have : x.toNat % 2 ^ 32 = x.toNat := Nat.mod_eq_of_lt (by omega)
  rw [this]
  omega

theorem opcOf_setWidth {n : Nat} (x : BitVec n) (hn : n ≤ 16) : opcOf (x.setWidth 32) = 0#5 :=
  opcOf_low (by have := toNat_setWidth_lt x hn; omega)

theorem opcOf_shift {n k : Nat} (x : BitVec n) (hn : n ≤ 8) (hk : k ≤ 16) : opcOf (x.setWidth 32 <<< k) = 0#5 :=
  opcOf_low (by have := toNat_shift_lt x hn hk; omega)

end Sys2Proof

namespace Sys2Proof.Laws.EncodedWord

/-- The `OPC` of each row of the operation map, with its format (R92). -/
def row : Instr → BitVec 5 × Format
  | .csEnter => (0x01, .n)
  | .csExit _ => (0x02, .csx)
  | .wait => (0x03, .n)
  | .run => (0x04, .n)
  | .schedTask _ _ => (0x08, .st)
  | .unschedTask _ => (0x09, .ut)
  | .schedPoll => (0x0A, .n)
  | .tick => (0x0B, .n)
  | .i2cReq _ _ _ => (0x10, .xr)
  | .i2cReqi _ _ _ => (0x11, .xr)
  | .i2cNack => (0x12, .n)
  | .i2cTx _ => (0x13, .byt)
  | .i2cPoll => (0x14, .n)
  | .i2cEvent _ _ => (0x15, .ev)

/-- The word of the instruction has the `OPC` of its row, and the reserved bits of that row's format are 0. -/
def Statement (i : Instr) : Prop :=
  opcOf (encode i) = (row i).1 ∧ encode i &&& (row i).2.reservedMask = 0#32

theorem csEnter : Statement .csEnter := by unfold Statement; decide
theorem csExit (t : Bool) : Statement (.csExit t) := by revert t; unfold Statement; decide
theorem wait : Statement .wait := by unfold Statement; decide
theorem run : Statement .run := by unfold Statement; decide
theorem schedPoll : Statement .schedPoll := by unfold Statement; decide
theorem tick : Statement .tick := by unfold Statement; decide
theorem i2cNack : Statement .i2cNack := by unfold Statement; decide
theorem i2cPoll : Statement .i2cPoll := by unfold Statement; decide

theorem low8 (x : Byte) : x.setWidth 32 &&& 0x07FFFF00#32 = 0#32 := by
  revert x; decide

theorem unschedTask (id : Byte) : Statement (.unschedTask id) :=
  ⟨by rw [encode, opcOf_or, opcOf_setWidth id (by decide)]; rfl,
    or_and_zero (m := 0x07FFFF00#32) (by decide) (low8 id)⟩

theorem i2cTx (data : Byte) : Statement (.i2cTx data) :=
  ⟨by rw [encode, opcOf_or, opcOf_setWidth data (by decide)]; rfl,
    or_and_zero (m := 0x07FFFF00#32) (by decide) (low8 data)⟩

theorem handler_st (h : Byte) : h.setWidth 32 <<< 16 &&& 0x07000000#32 = 0#32 := by revert h; decide

/-- The reserved bits of format ST lie above the delay field. -/
theorem delay_st (delay : Ticks) : delay.setWidth 32 &&& 0x07000000#32 = 0#32 := by
  apply BitVec.eq_of_getLsbD_eq
  intro i hi
  by_cases h16 : i < 16
  · have : ∀ k : Fin 16, (0x07000000#32).getLsbD k = false := by decide
    simp [this ⟨i, h16⟩]
  · simp [BitVec.getLsbD_of_ge delay i (by omega)]

theorem schedTask (h : Byte) (delay : Ticks) : Statement (.schedTask h delay) :=
  ⟨by
    rw [encode, opcOf_or, opcOf_or, opcOf_shift h (by decide) (by decide), opcOf_setWidth delay (by decide)]
    rfl, or_and_zero (m := 0x07000000#32) (or_and_zero (by decide) (handler_st h)) (delay_st delay)⟩

theorem fields_xr (addr : SlaveAddr) (rw : Bool) (h : Byte) :
    opcOf (h.setWidth 32 <<< 16) = 0#5 ∧ opcOf (addr.setWidth 32 <<< 1) = 0#5 ∧
    opcOf ((BitVec.ofBool rw).setWidth 32) = 0#5 ∧ h.setWidth 32 <<< 16 &&& 0x0700FF00#32 = 0#32 ∧
    addr.setWidth 32 <<< 1 &&& 0x0700FF00#32 = 0#32 ∧ (BitVec.ofBool rw).setWidth 32 &&& 0x0700FF00#32 = 0#32 :=
  ⟨opcOf_shift h (by decide) (by decide), opcOf_shift addr (by decide) (by decide), opcOf_setWidth _ (by decide),
    by revert h; decide, by revert addr; decide, by revert rw; decide⟩

theorem i2cReq (addr : SlaveAddr) (rw : Bool) (h : Byte) : Statement (.i2cReq addr rw h) := by
  obtain ⟨o1, o2, o3, m1, m2, m3⟩ := fields_xr addr rw h
  exact ⟨by rw [encode, opcOf_or, opcOf_or, opcOf_or, o1, o2, o3]; rfl,
    or_and_zero (m := 0x0700FF00#32) (or_and_zero (or_and_zero (by decide) m1) m2) m3⟩

theorem i2cReqi (addr : SlaveAddr) (rw : Bool) (h : Byte) : Statement (.i2cReqi addr rw h) := by
  obtain ⟨o1, o2, o3, m1, m2, m3⟩ := fields_xr addr rw h
  exact ⟨by rw [encode, opcOf_or, opcOf_or, opcOf_or, o1, o2, o3]; rfl,
    or_and_zero (m := 0x0700FF00#32) (or_and_zero (or_and_zero (by decide) m1) m2) m3⟩

theorem fields_ev (code data : Byte) :
    code.setWidth 32 <<< 8 &&& 0x07FF0000#32 = 0#32 ∧ data.setWidth 32 &&& 0x07FF0000#32 = 0#32 :=
  ⟨by revert code; decide, by revert data; decide⟩

theorem i2cEvent (code data : Byte) : Statement (.i2cEvent code data) :=
  ⟨by
    rw [encode, opcOf_or, opcOf_or, opcOf_shift code (by decide) (by decide), opcOf_setWidth data (by decide)]
    rfl, or_and_zero (m := 0x07FF0000#32) (or_and_zero (by decide) (fields_ev code data).1) (fields_ev code data).2⟩

end Sys2Proof.Laws.EncodedWord
end

