-- ==== Sys2Proof/Laws/Step.lean ====
section
/-! SUPPORT. What an operation answers, and every way a step can answer a next state, said once. -/

namespace Sys2Proof.Machine

/-- Every operation answers a next state: a fault of the spec is one too (60_exceptions.md R282). -/
theorem exec_next (i : Instr) (s : State) : ∃ t, exec i s = .next t := by
  cases i <;> exact ⟨_, rfl⟩

/-- The effect of an operation the matrix allows (the rules named in 30_encoding.md R92). -/
def effectOf : Instr → State → State
  | .csEnter => effectCsEnter
  | .csExit t => effectCsExit t
  | .wait => effectWait
  | .run => effectRun
  | .schedTask h delay => effectSchedTask h delay
  | .unschedTask id => effectUnschedTask id
  | .schedPoll => effectSchedPoll
  | .tick => effectTick
  | .i2cReq addr rw h => effectI2cReq addr rw h
  | .i2cReqi addr rw h => effectI2cReqi addr rw h
  | .i2cNack => effectI2cNack
  | .i2cTx data => effectI2cTx data
  | .i2cPoll => effectI2cPoll
  | .i2cEvent code data => effectI2cEvent code data

theorem exec_eq (i : Instr) (s : State) :
    exec i s = .next (if mayIssue i s then effectOf i s else s.raise .contextViolation) := by
  cases i <;> rfl

/-- An operation the matrix allows has its effect. -/
theorem exec_allowed {i : Instr} {s : State} (h : mayIssue i s = true) : exec i s = .next (effectOf i s) := by
  rw [exec_eq, if_pos h]

/-- An operation the matrix refuses faults, whichever it is (60_exceptions.md R285). -/
theorem exec_denied {i : Instr} {s : State} (h : mayIssue i s = false) :
    exec i s = .next (s.raise .contextViolation) := by
  simp [exec_eq, h]

theorem refusalOf_boot (i : Bool) (p : Program) :
    refusalOf .boot i p =
      if pairedFrom true i [] ((operations p.words).takeWhile (· != .run)) then none else some .unpairedCriticalSection := by
  cases h : pairedFrom true i [] ((operations p.words).takeWhile (· != .run)) <;> simp [refusalOf, h]

theorem refusalOf_task (n : Nat) (i : Bool) (p : Program) :
    refusalOf (.taskCb n) i p =
      if pairedFrom true i [] (operations p.words) then
        if p.returns && !flagAfter i (operations p.words) then some .returnWithInterruptsOff else none
      else some .unpairedCriticalSection := by
  cases h : pairedFrom true i [] (operations p.words) <;> simp [refusalOf, h]

theorem refusalOf_xfer (st : Status) (i : Bool) (p : Program) :
    refusalOf (.xferCb st) i p =
      if pairedFrom false i [] (operations p.words) then none else some .unpairedCriticalSection := by
  cases h : pairedFrom false i [] (operations p.words) <;> simp [refusalOf, h]

/-- The current context's program is `p`: the one in progress, or the one drawn, which passes its checks
(41_critical_section.md R126). -/
def RunsCode (s : State) (d : UnitDraw) (p : Program) : Prop :=
  s.code = some p ∨ (s.code = none ∧ d.prog = p ∧ ∃ c, s.ctx.head? = some c ∧ refusalOf c s.iFlag p = none)

/-- The word `w` is the next one decoded from `s`, and `s1` is the state it runs in: the running program issues it, or
it is the next of the interrupt body. -/
inductive Decodes (s : State) (w : Word) : State → Prop
  | program (d : UnitDraw) (ht : s.nextTurn = .execUnit d) (p : Program) (ws : List Word) (hp : RunsCode s d p)
      (hw : p.words = w :: ws)
      (hc : s.ctx.head? = some .boot ∨ (∃ i, s.ctx.head? = some (.taskCb i)) ∨ ∃ st, s.ctx.head? = some (.xferCb st)) :
      Decodes s w (s.drawn.withCode { p with words := ws })
  | body (ws : List Word) (hb : s.isrBody = w :: ws) (c : Ctx) (hi : c.isIsr = true) (hc : s.ctx.head? = some c) :
      Decodes s w { s.drawn with isrBody := ws }

/-- Every way a step answers a next state. -/
inductive StepCase (s : State) : State → Prop
  | timer (ht : s.nextTurn = .tickTimer) : StepCase s (timerFires s.drawn)
  | otherDevice (ht : s.nextTurn = .otherDevice) : StepCase s (otherFires s.drawn)
  | controller (ev : BusEvent) (d : Byte) (ht : s.nextTurn = .controller ev d) :
      StepCase s (controllerReports ev d s.drawn)
  | noStep : StepCase s s.drawn
  | hang (p : Program) (hs : s.sleeping = false) : StepCase s (s.drawn.withCode p)
  | entry (x : IrqSource) (hi : s.iFlag = true) (hx : s.irq x = true) : StepCase s (interruptEntry x s.drawn)
  | engine (d : UnitDraw) (ht : s.nextTurn = .execUnit d) (hs : s.sleeping = false)
      (hc : s.ctx.head? = some .poll) : StepCase s (engineStep d.gate s.drawn)
  | badWord (s1 : State) (w : Word) (hd : Decodes s w s1) (hs : s.sleeping = false) (c : FaultCode)
      (hc : c = .illegalOpcode ∨ c = .reservedNonzero) : StepCase s (s1.raise c)
  | word (s1 : State) (w : Word) (hd : Decodes s w s1) (hs : s.sleeping = false) (i : Instr)
      (hw : decode w = .ok i) (t : State) (ht : exec i s1 = .next t) : StepCase s t
  | exit (c : Ctx) (hi : c.isIsr = true) (hc : s.ctx.head? = some c) (hb : s.isrBody = []) (hs : s.sleeping = false) :
      StepCase s (interruptExit s.drawn)
  | taskReturn (i : Nat) (r : Ticks) (rest : List Ctx) (hc : s.ctx = .taskCb i :: rest) (hs : s.sleeping = false) :
      StepCase s (taskReturn i r s.drawn)
  | xferReturn (st : Status) (r : Bool) (rest : List Ctx) (hc : s.ctx = .xferCb st :: rest)
      (hs : s.sleeping = false) : StepCase s (s.drawn.pop.afterHandler st r)

/-- A word that runs to a next state was bad and faulted, or decoded to an operation that ran. -/
theorem runWord_next {w : Word} {s t : State} (h : runWord w s = .next t) :
    (∃ c, (c = .illegalOpcode ∨ c = .reservedNonzero) ∧ t = s.raise c) ∨
    (∃ i, decode w = .ok i ∧ exec i s = .next t) := by
  unfold runWord at h
  split at h
  · cases h; exact .inl ⟨_, .inl rfl, rfl⟩
  · cases h; exact .inl ⟨_, .inr rfl, rfl⟩
  · exact .inr ⟨_, ‹_›, h⟩

theorem StepCase.of_runWord {s s1 t : State} {w : Word} (hd : Decodes s w s1) (hs : s.sleeping = false)
    (h : runWord w s1 = .next t) : StepCase s t := by
  obtain ⟨c, hc, rfl⟩ | ⟨i, hw, ht⟩ := runWord_next h
  · exact .badWord s1 w hd hs c hc
  · exact .word s1 w hd hs i hw t ht

/-- A step of a program answers its next word's answer, its return, or nothing new once it is past its last word. -/
theorem programStep_next {p : Program} {s t : State} (h : programStep p s = .next t) :
    (∃ w ws, p.words = w :: ws ∧ runWord w (s.withCode { p with words := ws }) = .next t) ∨
    t = s.withCode p ∨
    (∃ i rest, s.ctx = .taskCb i :: rest ∧ t = taskReturn i p.delay s) ∨
    (∃ st rest, s.ctx = .xferCb st :: rest ∧ t = s.pop.afterHandler st p.goOn) := by
  unfold programStep at h
  split at h
  · rename_i w ws hw
    exact .inl ⟨w, ws, hw, h⟩
  · split at h
    · split at h
      · rename_i i rest hc
        unfold taskReturns at h
        split at h <;> cases h
        exact .inr (.inr (.inl ⟨i, rest, hc, rfl⟩))
      · rename_i st rest hc
        cases h
        exact .inr (.inr (.inr ⟨st, rest, hc, rfl⟩))
      · cases h; exact .inr (.inl rfl)
    · cases h; exact .inr (.inl rfl)

/-- A word is never refused: it faults or runs. -/
theorem runWord_not_refused {w : Word} {s : State} {r : Refusal} : runWord w s ≠ .refused r := by
  unfold runWord
  split <;> try simp
  rename_i i _
  obtain ⟨t, ht⟩ := exec_next i s
  simp [ht]

/-- A step of a running program is refused only where a task handler returns with `I = 0`. -/
theorem programStep_refused {p : Program} {s : State} {r : Refusal} (h : programStep p s = .refused r) :
    r = .returnWithInterruptsOff ∧ s.iFlag = false ∧ p.words = [] ∧ p.returns = true ∧
      ∃ i rest, s.ctx = .taskCb i :: rest := by
  unfold programStep at h
  split at h
  · exact absurd h runWord_not_refused
  · rename_i hw
    split at h
    · rename_i hr
      split at h
      · rename_i i rest hc
        unfold taskReturns at h
        split at h <;> cases h
        exact ⟨rfl, ‹_›, hw, hr, i, rest, hc⟩
      · cases h
      · cases h
    · cases h

/-- A step of a program is refused because the drawn program fails its checks, or because its step is. -/
theorem softwareStep_refused {c : Ctx} {drawn : Program} {s : State} {r : Refusal}
    (h : softwareStep c drawn s = .refused r) :
    (s.code = none ∧ refusalOf c s.iFlag drawn = some r) ∨
    ∃ p, programStep p s = .refused r ∧ (s.code = some p ∨ (s.code = none ∧ drawn = p ∧ refusalOf c s.iFlag p = none)) := by
  unfold softwareStep at h
  split at h
  · exact .inr ⟨_, h, .inl ‹_›⟩
  · split at h
    · cases h; exact .inl ⟨‹_›, ‹_›⟩
    · exact .inr ⟨drawn, h, .inr ⟨‹_›, rfl, ‹_›⟩⟩

theorem StepCase.of_softwareStep {s t : State} {d : UnitDraw} (ht : s.nextTurn = .execUnit d) (hs : s.sleeping = false)
    {c : Ctx} (hc : s.ctx.head? = some c) (hp : c = .boot ∨ (∃ i, c = .taskCb i) ∨ ∃ st, c = .xferCb st)
    (h : softwareStep c d.prog s.drawn = .next t) : StepCase s t := by
  have key : ∀ p, RunsCode s d p → programStep p s.drawn = .next t → StepCase s t := by
    intro p hr h
    obtain ⟨w, ws, hw, h⟩ | rfl | ⟨i, rest, hx, rfl⟩ | ⟨st, rest, hx, rfl⟩ := programStep_next h
    · refine .of_runWord (.program d ht p ws hr hw ?_) hs h
      rcases hp with rfl | ⟨i, rfl⟩ | ⟨st, rfl⟩
      · exact .inl hc
      · exact .inr (.inl ⟨i, hc⟩)
      · exact .inr (.inr ⟨st, hc⟩)
    · exact .hang p hs
    · exact .taskReturn i _ rest (by simpa using hx) hs
    · exact .xferReturn st _ rest (by simpa using hx) hs
  unfold softwareStep at h
  split at h
  · rename_i p hq
    exact key p (.inl (by simpa using hq)) h
  · rename_i hq
    split at h
    · cases h
    · rename_i ha
      exact key d.prog (.inr ⟨by simpa using hq, rfl, c, hc, by simpa using ha⟩) h

theorem StepCase.of_bodyStep {s t : State} (hs : s.sleeping = false) {c : Ctx} (hi : c.isIsr = true)
    (hc : s.ctx.head? = some c) (h : bodyStep s.drawn = .next t) : StepCase s t := by
  unfold bodyStep at h
  split at h
  · rename_i w rest hb
    exact .of_runWord (.body rest (by simpa using hb) c hi hc) hs h
  · rename_i hb
    cases h
    exact .exit c hi hc (by simpa using hb) hs

/-- Inversion of the step: a next state comes in one of the ways of `StepCase`, and from a state without a fault. -/
theorem step_cases {s t : State} (h : step s = .next t) : s.fault = 0#8 ∧ StepCase s t := by
  unfold step at h
  split at h
  · refine ⟨‹_›, ?_⟩
    unfold turnStep at h
    split at h
    · rename_i d ht
      unfold unitStep at h
      split at h
      · rename_i hq
        cases h
        simp only [Bool.and_eq_true] at hq
        exact .entry _ (by simpa using hq.1) (by simpa [State.irq] using pickIrq_pending s.drawn d.irq hq.2)
      · split at h
        · cases h; exact .noStep
        · rename_i hs
          have hs : s.sleeping = false := by simpa using hs
          split at h <;> rename_i hc <;> simp only [State.drawn_ctx] at hc
          · cases h; exact .noStep
          · cases h; exact .engine d ht hs (by simp [hc])
          · exact .of_bodyStep hs (c := .isrTick) rfl (by simp [hc]) h
          · exact .of_bodyStep hs (c := .isrI2c) rfl (by simp [hc]) h
          · exact .of_bodyStep hs (c := .isrOther) rfl (by simp [hc]) h
          · exact .of_softwareStep ht hs (by simp [hc]) (.inl rfl) h
          · exact .of_softwareStep ht hs (by rw [hc]; rfl) (.inr (.inl ⟨_, rfl⟩)) h
          · exact .of_softwareStep ht hs (by rw [hc]; rfl) (.inr (.inr ⟨_, rfl⟩)) h
    · cases h; exact .timer ‹_›
    · cases h; exact .otherDevice ‹_›
    · cases h; exact .controller _ _ ‹_›
  · cases h

end Sys2Proof.Machine
end

