-- ==== Sys2Proof/Laws/Permission.lean ====
section
/-! SUPPORT. The permission matrix read row by row: where each operation may be issued (60_exceptions.md R285). -/

namespace Sys2Proof.Machine

theorem inProgram_iff (s : State) :
    InProgram s ↔ ∃ c rest, s.ctx = c :: rest ∧
      (c = .boot ∨ (∃ i, c = .taskCb i) ∨ (∃ st, c = .xferCb st) ∨ c = .isrOther) := by
  simp only [InProgram, InCtx, InTask, InXfer]
  cases s.ctx <;> simp

theorem mayIssue_csEnter (s : State) : mayIssue .csEnter s = true ↔ InProgram s := by
  rw [inProgram_iff]; unfold mayIssue; split <;> simp_all

theorem mayIssue_csExit (s : State) (t : Bool) :
    mayIssue (.csExit t) s = true ↔ InCtx .boot s ∨ InTask s ∨ (t = false ∧ InProgram s) := by
  rw [inProgram_iff]; unfold mayIssue; split <;> simp_all [InCtx, InTask]

theorem mayIssue_wait (s : State) : mayIssue .wait s = true ↔ InCtx .poll s ∧ s.phase = .sleepCheck := by
  unfold mayIssue; split <;> simp_all [InCtx]

theorem mayIssue_run (s : State) : mayIssue .run s = true ↔ InCtx .boot s := by
  unfold mayIssue; split <;> simp_all [InCtx]

theorem mayIssue_schedTask (s : State) (h : Byte) (delay : Ticks) :
    mayIssue (.schedTask h delay) s = true ↔ InProgram s := by
  rw [inProgram_iff]; unfold mayIssue; split <;> simp_all

theorem mayIssue_unschedTask (s : State) (id : Byte) : mayIssue (.unschedTask id) s = true ↔ InProgram s := by
  rw [inProgram_iff]; unfold mayIssue; split <;> simp_all

theorem mayIssue_schedPoll (s : State) : mayIssue .schedPoll s = true ↔ InProgram s := by
  rw [inProgram_iff]; unfold mayIssue; split <;> simp_all

theorem mayIssue_tick (s : State) : mayIssue .tick s = true ↔ InCtx .isrTick s := by
  unfold mayIssue; split <;> simp_all [InCtx]

theorem mayIssue_i2cReq (s : State) (addr : SlaveAddr) (rw : Bool) (h : Byte) :
    mayIssue (.i2cReq addr rw h) s = true ↔ InCtx .boot s ∨ InTask s ∨ InXfer s := by
  unfold mayIssue; split <;> simp_all [InCtx, InTask, InXfer]

theorem mayIssue_i2cReqi (s : State) (addr : SlaveAddr) (rw : Bool) (h : Byte) :
    mayIssue (.i2cReqi addr rw h) s = true ↔ InXfer s := by
  unfold mayIssue; split <;> simp_all [InCtx, InXfer]

theorem mayIssue_i2cNack (s : State) :
    mayIssue .i2cNack s = true ↔ InCtx (.xferCb .receiveReady) s ∨ InCtx (.xferCb .byteReceived) s := by
  unfold mayIssue
  split <;> simp_all [InCtx]
  rename_i st _ _
  cases st <;> simp [Status.readPhase]

theorem mayIssue_i2cTx (s : State) (data : Byte) :
    mayIssue (.i2cTx data) s = true ↔ InCtx (.xferCb .transmitReady) s ∨ InCtx (.xferCb .byteTransmitted) s := by
  unfold mayIssue
  split <;> simp_all [InCtx]
  rename_i st _ _
  cases st <;> simp [Status.writePhase]

theorem mayIssue_i2cPoll (s : State) :
    mayIssue .i2cPoll s = true ↔ InCtx .boot s ∨ InTask s ∨ (InCtx .poll s ∧ s.phase = .busPoll) := by
  unfold mayIssue; split <;> simp_all [InCtx, InTask]

theorem mayIssue_i2cEvent (s : State) (code data : Byte) :
    mayIssue (.i2cEvent code data) s = true ↔ InCtx .isrI2c s := by
  unfold mayIssue; split <;> simp_all [InCtx]

end Sys2Proof.Machine
end

