-- ==== Sys2Proof/Tests/Slice0.lean ====
section
/-! SUPPORT. Tests, each expected result taken from the spec (its word tables and 95_test_vectors.md, whose row is
named), and for each statement with hypotheses a witness that meets them, clause by clause. -/

namespace Sys2Proof.Tests

open Sys2Proof.Machine

-- States to test on

def next? : StepResult → Option State
  | .next t => some t
  | .fault _ => none
  | .refused _ => none

/-- What `f` reads after the instruction runs. -/
def after {α : Type} (i : Instr) (s : State) (f : State → α) : Option α := (next? (exec i s)).map f

/-- What `f` reads after one step. -/
def stepped {α : Type} (s : State) (f : State → α) : Option α := (next? (step s)).map f

def boot : State := State.reset

def freeRing : List Request := [.free, .free, .free, .free]

/-- `Q[0] = (0x68, 1, 1)`, the rest free. -/
def writeRing : List Request := [⟨0x68#7, true, 1#8⟩, .free, .free, .free]

/-- `Q[0] = (0x68, 0, 2)`, the rest free. -/
def readRing : List Request := [⟨0x68#7, false, 2#8⟩, .free, .free, .free]

def engine (p : Phase) : State := { boot with ctx := [.poll], runActive := true, phase := p, iFlag := true }

def task : State :=
  { boot with ctx := [.taskCb 0, .poll], runActive := true, phase := .inHandler, iFlag := true, taskCallI := true }

def isr (c : Ctx) : State := { boot with ctx := [c, .poll], runActive := true, phase := .scan }

/-- The bus interrupt, in the given bus state, with the bus owned. -/
def bus (b : BusState) (ring : List Request) : State :=
  { isr .isrI2c with busState := b, queue := ring, busOwned := true }

/-- A transfer handler called with the status. -/
def xfer (st : Status) : State :=
  { bus .write writeRing with ctx := [.xferCb st, .isrI2c, .poll] }

/-- A program that issues the words and stops. -/
def issuing (ws : List Word) : Program := ⟨ws, false, 0#16, false⟩

/-- A task handler's program that issues the words and returns the delay. -/
def taskProg (ws : List Word) (r : Ticks) : Program := ⟨ws, true, r, false⟩

/-- A transfer handler's program that issues the words and returns the answer. -/
def xferProg (ws : List Word) (r : Bool) : Program := ⟨ws, true, 0#16, r⟩

def draw (p : Program) : UnitDraw := ⟨.tick, true, p⟩

/-- The state whose next turn is the execution unit's, with the program drawn. -/
def turn (s : State) (p : Program) : State := { s with script := [.execUnit (draw p)] }

def idle : Program := issuing []

-- Decoding: one word of each row, from the column of words of 95_test_vectors.md and R92

theorem test_decode_csEnter : decode 0x08000000#32 = .ok .csEnter := by decide
theorem test_decode_csExit : decode 0x10000001#32 = .ok (.csExit true) ∧ decode 0x10000000#32 = .ok (.csExit false) := by
  decide
theorem test_decode_wait : decode 0x18000000#32 = .ok .wait := by decide
theorem test_decode_run : decode 0x20000000#32 = .ok .run := by decide
theorem test_decode_schedTask : decode 0x4001FFFF#32 = .ok (.schedTask 1#8 0xFFFF#16) := by decide
theorem test_decode_unschedTask : decode 0x48000002#32 = .ok (.unschedTask 2#8) := by decide
theorem test_decode_schedPoll : decode 0x50000000#32 = .ok .schedPoll := by decide
theorem test_decode_tick : decode 0x58000000#32 = .ok .tick := by decide
theorem test_decode_i2cReq : decode 0x800300A1#32 = .ok (.i2cReq 0x50#7 true 3#8) := by decide
theorem test_decode_i2cReqi : decode 0x880500A2#32 = .ok (.i2cReqi 0x51#7 false 5#8) := by decide
theorem test_decode_i2cNack : decode 0x90000000#32 = .ok .i2cNack := by decide
theorem test_decode_i2cTx : decode 0x98000055#32 = .ok (.i2cTx 0x55#8) := by decide
theorem test_decode_i2cPoll : decode 0xA0000000#32 = .ok .i2cPoll := by decide
theorem test_decode_i2cEvent : decode 0xA8005834#32 = .ok (.i2cEvent 0x58#8 0x34#8) := by decide

/-- Vectors D-1 to D-8, D-13, D-14. -/
theorem test_decode_rejects :
    decode 0x00000000#32 = .error .illegalOpcode ∧ decode 0x28000000#32 = .error .illegalOpcode ∧
    decode 0xF8000000#32 = .error .illegalOpcode ∧ decode 0x08000001#32 = .error .reservedNonzero ∧
    decode 0x10000002#32 = .error .reservedNonzero ∧ decode 0x41000001#32 = .error .reservedNonzero ∧
    decode 0x80010100#32 = .error .reservedNonzero ∧ decode 0xA8010000#32 = .error .reservedNonzero ∧
    decode 0x41000000#32 = .error .reservedNonzero ∧ decode 0x58000001#32 = .error .reservedNonzero := by decide

/-- The host's numbering: bits above the row's are 0. -/
theorem test_decodeTableWord : decodeTableWord 32 0x40010003 = some (.schedTask 1#8 3#16) := by decide

-- The checks of WellFormed and of the parameters, each with an ill-formed term

theorem test_wf_ok : Instr.wf 4 (.schedTask 1#8 3#16) = true ∧ Instr.wf 4 (.unschedTask 3#8) = true := by decide
theorem test_wf_null_task_handler : Instr.wf 4 (.schedTask 0#8 3#16) = false := by decide
theorem test_wf_zero_delay : Instr.wf 4 (.schedTask 1#8 0#16) = false := by decide
theorem test_wf_task_id : Instr.wf 4 (.unschedTask 4#8) = false := by decide
theorem test_wf_null_request_handler : Instr.wf 4 (.i2cReq 0x68#7 false 0#8) = false := by decide
theorem test_wf_null_instant_handler : Instr.wf 4 (.i2cReqi 0x68#7 false 0#8) = false := by decide

/-- Program P6: "each `cs.enter` is matched, innermost first". -/
theorem test_paired_p6 : pairedFrom true false []
    [.csExit true, .csEnter, .csEnter, .schedTask 5#8 2#16, .csExit false, .csExit true, .run] = true := by decide
theorem test_paired_unclosed : pairedFrom true true [] [.csEnter, .csEnter, .csExit false] = false := by decide
theorem test_paired_wrong_order : pairedFrom true true [] [.csEnter, .csEnter, .csExit true] = false := by decide

/-- R123: an exit that a transfer handler may not issue leaves `I` at 0, and opens and closes nothing. -/
theorem test_paired_transfer :
    pairedFrom false false [] [.csExit true, .csEnter, .csExit false] = true ∧
    pairedFrom false false [] [.csEnter, .csExit true] = false := by decide

/-- R122: an exit writes its token to `I`, an enter clears it. -/
theorem test_flagAfter : flagAfter true [.csEnter, .csExit true] = true ∧ flagAfter true [.csEnter] = false ∧
    flagAfter false [.schedPoll] = false := by decide

theorem test_otherIsr_legal : otherIsrLegal [0x50000000#32] = true := by decide
/-- R305, R285: the matrix allows `SCHED_TASK` to `ISR_OTHER` with any operands. -/
theorem test_otherIsr_operands : otherIsrLegal [0x50000000#32, 0x40000000#32] = true := by decide
theorem test_otherIsr_empty : otherIsrLegal [] = false := by decide
theorem test_otherIsr_bad_word : otherIsrLegal [0x50000000#32, 0x00000000#32] = false := by decide
theorem test_otherIsr_forbidden : otherIsrLegal [0x50000000#32, 0x800100D0#32] = false := by decide
/-- R305 asks for no pairing. -/
theorem test_otherIsr_unpaired : otherIsrLegal [0x50000000#32, 0x08000000#32] = true := by decide
theorem test_params_legal : State.reset.legalParams = true := by decide
theorem test_statusMap_outside_mask : StatusMap.legal ⟨0xF8#8, [(0x09#8, .startSent)]⟩ = false := by decide
theorem test_statusMap_twice : StatusMap.legal ⟨0xF8#8, [(0x08#8, .startSent), (0x08#8, .busError)]⟩ = false := by decide
theorem test_params_no_slots : ({ boot with tasks := [] } : State).legalParams = false := by decide

-- Operations: 95_test_vectors.md sections 2.2, 2.3, 2.5, 2.6

/-- CS-1, CS-2. -/
theorem test_csEnter :
    after .csEnter { boot with iFlag := true } (fun t => (t.result, t.iFlag)) = some (.token true, false) ∧
    after .csEnter boot (fun t => (t.result, t.iFlag)) = some (.token false, false) := by decide

/-- CS-3, CS-4. -/
theorem test_csExit_boot :
    after (.csExit false) { boot with iFlag := true } State.iFlag = some false ∧
    after (.csExit true) boot State.iFlag = some true := by decide

/-- CS-5, CS-6. -/
theorem test_csExit_interrupt :
    after (.csExit true) (xfer .transmitReady) State.fault = some 3#8 ∧
    after (.csExit true) (isr .isrOther) State.fault = some 3#8 := by decide

/-- D-9, and P-17's halt. -/
theorem test_wait : after .wait boot State.fault = some 3#8 ∧
    after .wait { engine .sleepCheck with iFlag := false } (fun t => (t.iFlag, t.sleeping)) = some (true, true) := by
  decide

/-- T-15. -/
theorem test_run : after .run boot (fun t => (t.runActive, t.ctx, t.phase)) = some (true, [.poll], .clear) := by decide
/-- T-16. -/
theorem test_run_task : after .run task State.fault = some 3#8 := by decide

/-- T-2, T-3. -/
theorem test_schedTask :
    after (.schedTask 2#8 1#16) { boot with tasks := [⟨3#16, 1#8⟩, ⟨0#16, 0#8⟩] } (fun t => (t.result, t.tasks)) =
      some (.scheduled true 1#8, [⟨3#16, 1#8⟩, ⟨1#16, 2#8⟩]) ∧
    after (.schedTask 3#8 7#16) { boot with tasks := [⟨3#16, 1#8⟩, ⟨1#16, 2#8⟩] } (fun t => (t.result, t.fault)) =
      some (.scheduled false 0#8, 0#8) := by decide

/-- T-4 to T-6. -/
theorem test_schedTask_faults : after (.schedTask 0#8 3#16) boot State.fault = some 6#8 ∧
    after (.schedTask 1#8 0#16) boot State.fault = some 4#8 ∧
    after (.schedTask 0#8 0#16) boot State.fault = some 6#8 := by decide

/-- T-10; T-8, with `MAX_TASKS = 2`. -/
theorem test_unschedTask :
    after (.unschedTask 1#8) { boot with tasks := [⟨0#16, 0#8⟩, ⟨9#16, 2#8⟩] } State.tasks =
      some [⟨0#16, 0#8⟩, ⟨0#16, 2#8⟩] ∧
    after (.unschedTask 2#8) { boot with tasks := [⟨0#16, 0#8⟩, ⟨9#16, 2#8⟩] } State.fault = some 5#8 := by decide

/-- T-11. -/
theorem test_schedPoll : after .schedPoll boot State.pollPending = some true := by decide

/-- T-14. -/
theorem test_tick_wraps :
    after .tick { isr .isrTick with tickCount := 0xFFFFFFFF#32, tickDelta := 0xFFFF#16 }
      (fun t => (t.tickCount, t.tickDelta, t.pollPending)) = some (0#32, 0#16, true) := by decide
/-- T-12. -/
theorem test_tick_software : after .tick boot State.fault = some 3#8 := by decide

/-- Q-4; Q-3. -/
theorem test_i2cReq :
    after (.i2cReq 0x68#7 false 1#8) { boot with queue := [.free, ⟨0x50#7, false, 3#8⟩], rp := 1 }
      (fun t => (t.result, t.queue)) = some (.accepted true, [⟨0x68#7, true, 1#8⟩, ⟨0x50#7, false, 3#8⟩]) ∧
    after (.i2cReq 0x20#7 false 4#8) { boot with queue := [⟨0x68#7, true, 1#8⟩, ⟨0x50#7, false, 3#8⟩] }
      (fun t => (t.result, t.queue)) = some (.accepted false, [⟨0x68#7, true, 1#8⟩, ⟨0x50#7, false, 3#8⟩]) := by decide
/-- Q-5. -/
theorem test_i2cReq_null : after (.i2cReq 0x68#7 false 0#8) boot State.fault = some 6#8 := by decide

/-- Q-7, Q-8. -/
theorem test_i2cReqi :
    after (.i2cReqi 0x68#7 true 2#8) (xfer .byteTransmitted) (fun t => (t.queue, t.instantPend)) =
      some (readRing, true) ∧
    after (.i2cReqi 0x51#7 false 5#8) { xfer .byteTransmitted with queue := readRing, instantPend := true }
      (fun t => (t.queue.head?, t.instantPend)) = some (some ⟨0x51#7, true, 5#8⟩, true) := by decide
/-- Q-6. -/
theorem test_i2cReqi_boot : after (.i2cReqi 0x68#7 true 2#8) boot State.fault = some 3#8 := by decide

/-- Q-9, Q-10. -/
theorem test_i2cNack : after .i2cNack (xfer .transmitReady) State.fault = some 3#8 ∧
    after .i2cNack (xfer .receiveReady) State.nackReq = some true := by decide

/-- Q-12's last byte; Q-11. -/
theorem test_i2cTx :
    after (.i2cTx 2#8) { xfer .byteTransmitted with txPend := true, txData := 1#8 } (fun t => (t.txData, t.txPend)) =
      some (2#8, true) ∧
    after (.i2cTx 0x55#8) (xfer .receiveReady) State.fault = some 3#8 := by decide

/-- Q-15. -/
theorem test_i2cPoll_starts :
    after .i2cPoll { boot with queue := [⟨0x50#7, false, 3#8⟩, .free], nackReq := true }
      (fun t => (t.nackReq, t.wire, t.ctrlWait, t.ctrlCmd, t.busState)) =
      some (false, [.s], true, some .start, .slaR) := by decide
/-- Q-13, Q-16. -/
theorem test_i2cPoll_nothing :
    after .i2cPoll { boot with busState := .write, queue := writeRing } (fun t => (t.wire, t.busState)) =
      some ([], .write) ∧
    after .i2cPoll (xfer .transmitReady) State.fault = some 3#8 := by decide

/-- F-2, F-6 (the address bytes 0xD0 and 0xD1); F-25, F-13, F-20 (the status and the byte of the callback). -/
theorem test_i2cEvent_rows :
    after (.i2cEvent 0x08#8 0#8) (bus .slaW writeRing) (fun t => (t.wire, t.busState)) =
      some ([.w 0xD0#8], .slaWSent) ∧
    after (.i2cEvent 0x08#8 0#8) (bus .slaR readRing) (fun t => (t.wire, t.busState)) =
      some ([.w 0xD1#8], .slaRSent) ∧
    after (.i2cEvent 0x58#8 0x34#8) (bus .read readRing) State.calls = some [.xfer 2#8 .lastByteReceived 0x34#8] ∧
    after (.i2cEvent 0xF8#8 0#8) (bus .slaWSent writeRing) State.calls = some [.xfer 1#8 .transmitFailed 0#8] ∧
    after (.i2cEvent 0x30#8 0#8) (bus .write writeRing) State.calls = some [.xfer 1#8 .nack 0#8] := by decide

/-- F-1, F-31 (faults); F-27 (the byte is discarded); F-29 (the chained transfer). -/
theorem test_i2cEvent_ends :
    after (.i2cEvent 0x08#8 0#8) (bus .idle freeRing) State.fault = some 7#8 ∧
    after (.i2cEvent 0x28#8 0#8) { boot with busState := .write } State.fault = some 3#8 ∧
    after (.i2cEvent 0x58#8 0x99#8) (bus .closingRead readRing) (fun t => (t.queue, t.rp, t.wire, t.busState)) =
      some ([⟨0x68#7, false, 0#8⟩, .free, .free, .free], 1, [.p], .idle) ∧
    after (.i2cEvent 0x58#8 0x99#8)
      { bus .closingRead [⟨0x51#7, true, 5#8⟩, .free, .free, .free] with instantPend := true }
      (fun t => (t.instantPend, t.wire, t.busState, t.rp)) = some (false, [.sr], .slaW, 0) :=
  ⟨by decide, by decide, by decide, by decide⟩

-- Handler returns, the engine, interrupts and devices: one step each

/-- F-8, F-9: a byte supplied, and none. -/
theorem test_write_answer :
    stepped (turn { xfer .transmitReady with txPend := true, txData := 0x55#8 } (xferProg [] true))
      (fun t => (t.wire, t.busState, t.txPend)) = some ([.w 0x55#8], .write, false) ∧
    stepped (turn (xfer .transmitReady) (xferProg [] true)) (fun t => (t.wire, t.busState, t.rp)) =
      some ([.p], .idle, 1) := by decide

/-- F-23 (`NACK_REQ` stays), F-24. -/
theorem test_read_answer :
    stepped (turn { xfer .byteReceived with busState := .read, nackReq := true } (xferProg [] true))
      (fun t => (t.wire, t.busState, t.nackReq)) = some ([.rNack], .read, true) ∧
    stepped (turn { xfer .byteReceived with busState := .read } (xferProg [] false)) (fun t => (t.wire, t.busState)) =
      some ([.rNack], .closingRead) := by decide

/-- F-21: the bus is no longer owned, so no `P`. -/
theorem test_closing_status :
    stepped (turn { xfer .transmitFailed with busOwned := false } (xferProg [] true))
      (fun t => (t.wire, t.busState, t.rp)) = some ([], .idle, 1) := by decide

/-- P-3. -/
theorem test_drain : stepped (turn { engine .drain with tickDelta := 3#16 } idle)
    (fun t => (t.tickDelta, t.roundTicks, t.nextTicks, t.cursor, t.phase)) = some (0#16, 3#16, 0#16, 0, .scan) := by
  decide

/-- P-4, P-5. -/
theorem test_scan :
    stepped (turn { engine .scan with tasks := [⟨5#16, 1#8⟩], roundTicks := 3#16 } idle)
      (fun t => (t.tasks, t.cursor)) = some ([⟨2#16, 1#8⟩], 1) ∧
    stepped (turn { engine .scan with tasks := [⟨3#16, 1#8⟩], roundTicks := 3#16 } idle)
      (fun t => (t.tasks, t.phase, t.ctx)) = some ([⟨0xFFFF#16, 1#8⟩], .inHandler, [.taskCb 0, .poll]) := by decide

/-- P-8. -/
theorem test_task_return : stepped (turn { task with tickDelta := 2#16 } (taskProg [] 6#16))
    (fun t => (t.tasks.head?, t.nextTicks, t.tickDelta, t.cursor)) = some (some ⟨6#16, 0#8⟩, 2#16, 0#16, 1) := by decide

/-- P-9's second step, P-10. -/
theorem test_passEnd :
    stepped (turn { engine .passEnd with nextTicks := 2#16, cursor := 4 } idle)
      (fun t => (t.roundTicks, t.nextTicks, t.cursor, t.phase)) = some (2#16, 0#16, 0, .scan) ∧
    stepped (turn (engine .passEnd) idle) State.phase = some .busPoll := by decide

/-- P-15, P-17. -/
theorem test_sleepCheck :
    stepped (turn { engine .sleepCheck with pollPending := true } idle) (fun t => (t.iFlag, t.phase)) =
      some (true, .clear) ∧
    stepped (turn { engine .sleepCheck with iFlag := false } idle) (fun t => (t.iFlag, t.sleeping, t.phase)) =
      some (true, true, .halted) := by decide

/-- I-8: entry above a task handler. -/
theorem test_entry : stepped (turn { task with irqI2c := true } idle) (fun t => (t.ctx, t.irqI2c, t.iFlag)) =
    some ([.isrI2c, .taskCb 0, .poll], false, false) := by decide

/-- I-4's exit. -/
theorem test_exit_wakes : stepped (turn { isr .isrOther with phase := .halted } idle)
    (fun t => (t.ctx, t.iFlag, t.phase)) = some ([.poll], true, .clear) := by decide

/-- I-7. -/
theorem test_faulted_stops : step { engine .scan with fault := 3#8, irqTick := true } = .fault (.stickyFault 3#8) := by
  rfl

/-- K-5. -/
theorem test_controller :
    stepped { bus .slaW writeRing with ctrlWait := true, ctrlCmd := some .start, busOwned := false,
                                       script := [.controller .startSent 0#8] }
      (fun t => (t.ctrlCode, t.busOwned, t.ctrlWait, t.irqI2c)) = some (0x08#8, true, false, true) := by decide

/-- K-6, K-7. -/
theorem test_conforming :
    conforms { bus .slaWSent writeRing with ctrlCmd := some (.send 0xD0#8) } .slaWNack = true ∧
    conforms { bus .slaWSent writeRing with ctrlCmd := some (.send 0xD0#8) } .dataRxAck = false ∧
    conforms { bus .read readRing with ctrlCmd := some .recvAck } .dataRxAck = true ∧
    conforms { bus .read readRing with ctrlCmd := some .recvAck } .arbLost = false := by decide

/-- R126: a program that opens a bracket and never closes it is refused, not run. -/
theorem test_unpaired_refused :
    step (turn boot (issuing [0x08000000#32])) = .refused .unpairedCriticalSection ∧
    step (turn task (taskProg [0x08000000#32] 1#16)) = .refused .unpairedCriticalSection := ⟨rfl, rfl⟩

/-- R123: the transfer handler's first word faults, and the program is not refused. -/
theorem test_transfer_exit_faults :
    stepped (turn (xfer .nack) (xferProg [0x10000001#32, 0x08000000#32, 0x10000000#32] true)) State.fault = some 3#8 := by
  decide

/-- R296: an interrupt body that left a bracket open exits (R126 does not name `OTHER_ISR`). -/
theorem test_open_bracket_exits :
    stepped (turn { isr .isrOther with brackets := [⟨2, false⟩] } idle) (fun t => (t.ctx, t.iFlag)) =
      some ([.poll], true) := by decide

/-- R331: a task handler that returns with `I = 0` is refused, whatever `I` was at its call. -/
theorem test_disabled_return_refused :
    step (turn { task with iFlag := false, taskCallI := false } (taskProg [] 1#16)) =
      .refused .returnWithInterruptsOff := rfl

/-- The host's word runs as the next operation from reset. -/
theorem test_withFetchWord : stepped (State.reset.withFetchWord 32 0x40010003) (fun t => t.tasks.head?) =
    some (some ⟨3#16, 1#8⟩) := by decide

/-- P8's second line. -/
theorem test_withFetchWord_fault : stepped (State.reset.withFetchWord 32 0x90000000) State.fault = some 3#8 := by decide

-- Witnesses: states that meet each statement's hypotheses, clause by clause

theorem witness_program : InProgram boot ∧ InProgram task ∧ InProgram (xfer .nack) ∧ InProgram (isr .isrOther) :=
  ⟨.inl rfl, .inr (.inl ⟨0, rfl⟩), .inr (.inr (.inl ⟨_, rfl⟩)), .inr (.inr (.inr rfl))⟩

theorem witness_no_program : ¬ InProgram (isr .isrTick) ∧ (isr .isrTick).fault = 0#8 ∧
    ¬ InProgram (engine .sleepCheck) ∧ (engine .sleepCheck).fault = 0#8 := by
  refine ⟨?_, rfl, ?_, rfl⟩ <;> simp [InProgram, InCtx, InTask, InXfer, isr, engine]

theorem witness_CsEnterSavesFlagAndDisables : InProgram boot ∧ ¬ InProgram (isr .isrTick) ∧ (isr .isrTick).fault = 0#8 :=
  ⟨witness_program.1, witness_no_program.1, rfl⟩

/-- Each clause for `T = 0` and, where it has them, `T = 1`. -/
theorem witness_CsExitRestoresFlag :
    (InCtx .boot boot ∨ InTask boot ∨ (true = false ∧ InProgram boot)) ∧
    (InCtx .boot (isr .isrOther) ∨ InTask (isr .isrOther) ∨ (false = false ∧ InProgram (isr .isrOther))) ∧
    InXfer (xfer .nack) ∧ (xfer .nack).fault = 0#8 ∧ InCtx .isrOther (isr .isrOther) ∧ (isr .isrOther).fault = 0#8 ∧
    ¬ InProgram (isr .isrTick) ∧ (isr .isrTick).fault = 0#8 :=
  ⟨.inl rfl, .inr (.inr ⟨rfl, witness_program.2.2.2⟩), ⟨_, rfl⟩, rfl, rfl, rfl, witness_no_program.1, rfl⟩

theorem witness_NestedSectionsRestoreFlag : ∃ (b c d e : State),
    InTask task ∧ exec .csEnter task = .next b ∧ b.result = .token true ∧ exec .csEnter b = .next c ∧
    c.result = .token false ∧ exec (.csExit false) c = .next d ∧ exec (.csExit true) d = .next e ∧
    b.ctx = task.ctx ∧ c.ctx = task.ctx ∧ d.ctx = task.ctx :=
  ⟨_, _, _, _, ⟨0, rfl⟩, rfl, rfl, rfl, rfl, rfl, rfl, rfl, rfl, rfl⟩

/-- Boot code, a task handler and a transfer handler, none with a bracket open. -/
theorem witness_PairingCheckFollowsProgram :
    (BracketsPaired boot ∧ InCtx .boot boot ∧ ∀ i ∈ [Instr.csEnter, .schedPoll, .csExit false], i ≠ .run) ∧
    (BracketsPaired task ∧ InTask task) ∧ (BracketsPaired (xfer .nack) ∧ InXfer (xfer .nack) ∧ (xfer .nack).iFlag = false) := by
  refine ⟨⟨?_, rfl, by decide⟩, ⟨?_, 0, rfl⟩, ?_, ⟨_, rfl⟩, rfl⟩ <;>
    simp [BracketsPaired, boot, task, xfer, bus, isr, State.reset, State.resetWith]

theorem witness_WaitEnablesAndHalts :
    InCtx .poll (engine .sleepCheck) ∧ (engine .sleepCheck).phase = .sleepCheck ∧
    ¬ (InCtx .poll (engine .scan) ∧ (engine .scan).phase = .sleepCheck) ∧ (engine .scan).fault = 0#8 ∧
    ¬ (InCtx .poll boot ∧ boot.phase = .sleepCheck) ∧ boot.fault = 0#8 :=
  ⟨rfl, rfl, by simp [engine], rfl, by simp [boot, State.reset, State.resetWith], rfl⟩

/-- The last slot is the first free one; the table is full; the operands are at their ends. -/
theorem witness_SchedTaskTakesLowestFreeSlot :
    InProgram boot ∧ (0xFF#8 : Byte) ≠ 0#8 ∧ (0xFFFF#16 : Ticks) ≠ 0#16 ∧
    (let s := { boot with tasks := [⟨1#16, 1#8⟩, ⟨0#16, 2#8⟩] }
     InProgram s ∧ s.tasks[1]? = some ⟨0#16, 2#8⟩ ∧
      ∀ j other, j < 1 → s.tasks[j]? = some other → other.delay ≠ 0#16) ∧
    (let s := { boot with tasks := [⟨1#16, 1#8⟩, ⟨0xFFFF#16, 2#8⟩] }
     InProgram s ∧ ∀ slot ∈ s.tasks, slot.delay ≠ 0#16) ∧
    boot.fault = 0#8 ∧ ¬ InProgram (isr .isrTick) := by
  refine ⟨.inl rfl, by decide, by decide, ⟨.inl rfl, rfl, ?_⟩, ⟨.inl rfl, by decide⟩, rfl, witness_no_program.1⟩
  intro j other hj h
  obtain rfl : j = 0 := by omega
  simp at h
  simp [← h]

/-- The last id of the table, the first past it, and a forbidden context. -/
theorem witness_UnschedTaskFreesSlot :
    InProgram boot ∧ boot.tasks[(3#8 : Byte).toNat]? = some ⟨0#16, 0#8⟩ ∧ boot.tasks.length ≤ (4#8 : Byte).toNat ∧
    boot.fault = 0#8 ∧ ¬ InProgram (isr .isrTick) ∧ (isr .isrTick).fault = 0#8 :=
  ⟨.inl rfl, rfl, by decide, rfl, witness_no_program.1, rfl⟩

theorem witness_SchedPollRequestsRound : InProgram (xfer .nack) ∧ ¬ InProgram (isr .isrTick) ∧ (isr .isrTick).fault = 0#8 :=
  ⟨witness_program.2.2.1, witness_no_program.1, rfl⟩

theorem witness_TickCountsOneTick : InCtx .isrTick (isr .isrTick) ∧ ¬ InCtx .isrTick boot ∧ boot.fault = 0#8 :=
  ⟨rfl, by simp [InCtx, boot, State.reset, State.resetWith], rfl⟩

theorem witness_RunStartsEngine : InCtx .boot boot ∧ ¬ InCtx .boot task ∧ task.fault = 0#8 :=
  ⟨rfl, by simp [InCtx, task], rfl⟩

/-- The scan wraps to the one free slot, the last of the scan; and the ring is full. -/
theorem witness_I2cReqTakesFirstFreeSlotFromRp :
    (let s := { boot with queue := [⟨1#7, true, 1#8⟩, .free, ⟨2#7, false, 2#8⟩], rp := 2 }
     InCtx .boot s ∧ 2 < s.queue.length ∧ FreeSlot s ((s.rp + 2) % s.queue.length) ∧
      ∀ k', k' < 2 → Occupied s ((s.rp + k') % s.queue.length)) ∧
    (let s := { boot with queue := [⟨1#7, true, 1#8⟩] }
     InCtx .boot s ∧ s.fault = 0#8 ∧ ∀ q ∈ s.queue, q.handler ≠ 0#8) ∧
    ¬ (InCtx .boot (isr .isrOther) ∨ InTask (isr .isrOther) ∨ InXfer (isr .isrOther)) := by
  refine ⟨⟨rfl, by decide, ⟨_, rfl, rfl⟩, ?_⟩, ⟨rfl, rfl, by decide⟩, by simp [InCtx, InTask, InXfer, isr]⟩
  intro k hk
  obtain rfl | rfl : k = 0 ∨ k = 1 := by omega
  · exact ⟨⟨2#7, false, 2#8⟩, rfl, by decide⟩
  · exact ⟨⟨1#7, true, 1#8⟩, rfl, by decide⟩

theorem witness_I2cReqiOverwritesActiveSlot :
    InXfer (xfer .byteTransmitted) ∧ (xfer .byteTransmitted).fault = 0#8 ∧ ¬ InXfer boot ∧ boot.fault = 0#8 :=
  ⟨⟨_, rfl⟩, rfl, by simp [InXfer, InCtx, boot, State.reset, State.resetWith], rfl⟩

theorem witness_I2cNackMarksNextByte :
    InCtx (.xferCb .receiveReady) (xfer .receiveReady) ∧ InCtx (.xferCb .byteReceived) (xfer .byteReceived) ∧
    ¬ (InCtx (.xferCb .receiveReady) (xfer .transmitReady) ∨ InCtx (.xferCb .byteReceived) (xfer .transmitReady)) ∧
    (xfer .transmitReady).fault = 0#8 :=
  ⟨rfl, rfl, by simp [InCtx, xfer], rfl⟩

theorem witness_I2cTxSuppliesByte :
    InCtx (.xferCb .transmitReady) (xfer .transmitReady) ∧ InCtx (.xferCb .byteTransmitted) (xfer .byteTransmitted) ∧
    ¬ (InCtx (.xferCb .transmitReady) (xfer .receiveReady) ∨ InCtx (.xferCb .byteTransmitted) (xfer .receiveReady)) ∧
    (xfer .receiveReady).fault = 0#8 :=
  ⟨rfl, rfl, by simp [InCtx, xfer], rfl⟩

theorem witness_I2cPollStartsWaitingRequest :
    (let s := { boot with queue := readRing }
     InCtx .boot s ∧ s.busState = .idle ∧ s.queue[s.rp]? = some ⟨0x68#7, false, 2#8⟩ ∧ (2#8 : Byte) ≠ 0#8) ∧
    (InCtx .boot boot ∧ FreeSlot boot boot.rp) ∧
    (let s := { engine .busPoll with busState := .read }
     InCtx .poll s ∧ s.phase = .busPoll ∧ s.busState ≠ .idle) ∧
    ¬ (InCtx .boot (xfer .nack) ∨ InTask (xfer .nack) ∨
      (InCtx .poll (xfer .nack) ∧ (xfer .nack).phase = .busPoll)) ∧ (xfer .nack).fault = 0#8 :=
  ⟨⟨rfl, rfl, rfl, by decide⟩, ⟨rfl, _, rfl, rfl⟩, ⟨rfl, rfl, by decide⟩, by simp [InCtx, InTask, xfer], rfl⟩

theorem witness_I2cEventOutsideBodyFaults :
    ¬ InCtx .isrI2c boot ∧ boot.fault = 0#8 ∧ InCtx .isrI2c (bus .idle freeRing) ∧ (bus .idle freeRing).fault = 0#8 ∧
    (bus .idle freeRing).busState = .idle :=
  ⟨by simp [InCtx, boot, State.reset, State.resetWith], rfl, rfl, rfl, rfl⟩

theorem witness_StartCompletionSendsAddress :
    InCtx .isrI2c (bus .slaW writeRing) ∧ (bus .slaW writeRing).queue[0]? = some ⟨0x68#7, true, 1#8⟩ ∧
    defaultStatusMap.event 0x08#8 = .startSent ∧ (bus .slaW writeRing).busState = .slaW ∧
    InCtx .isrI2c (bus .slaR readRing) ∧ (bus .slaR readRing).queue[0]? = some ⟨0x68#7, false, 2#8⟩ ∧
    defaultStatusMap.event 0x17#8 = .repStartSent ∧ (bus .slaR readRing).busState = .slaR :=
  ⟨rfl, rfl, rfl, rfl, rfl, rfl, rfl, rfl⟩

theorem witness_EventRowsCallHandler :
    InCtx .isrI2c (bus .read readRing) ∧ (bus .read readRing).queue[0]? = some ⟨0x68#7, false, 2#8⟩ ∧
    rowCall .read (defaultStatusMap.event 0x5F#8) 0xFF#8 = some (.lastByteReceived, 0xFF#8) ∧
    InCtx .isrI2c (bus .slaWSent writeRing) ∧ (bus .slaWSent writeRing).queue[0]? = some ⟨0x68#7, true, 1#8⟩ ∧
    rowCall .slaWSent (defaultStatusMap.event 0x18#8) 0xFF#8 = some (.transmitReady, 0x00#8) :=
  ⟨rfl, rfl, rfl, rfl, rfl, rfl⟩

theorem witness_ClosingReadConsumesByte :
    InCtx .isrI2c (bus .closingRead readRing) ∧ (bus .closingRead readRing).queue[0]? = some ⟨0x68#7, false, 2#8⟩ ∧
    (bus .closingRead readRing).busState = .closingRead ∧ defaultStatusMap.event 0x58#8 = .dataRxNack := ⟨rfl, rfl, rfl, rfl⟩

theorem unitTurn_turn (s : State) (a : Program) (hf : s.fault = 0#8) (hs : s.sleeping = false) (hi : s.anyIrq = false) :
    UnitTurn (turn s a) (draw a) := by
  refine ⟨hf, rfl, hs, .inr ?_⟩
  simp only [State.anyIrq, Bool.or_eq_false_iff] at hi
  exact ⟨hi.1.1, hi.1.2, hi.2⟩

theorem engineTurn_turn (p : Phase) (a : Program) : EngineTurn (turn (engine p) a) (draw a) p :=
  ⟨unitTurn_turn _ _ rfl rfl rfl, rfl, rfl, rfl⟩

/-- A transfer handler whose drawn program issues nothing and returns. -/
theorem xferReturn_turn (s : State) (r : Bool) (hf : s.fault = 0#8) (hs : s.sleeping = false) (hi : s.anyIrq = false)
    (hx : InXfer s) (hn : s.xferCode = none) :
    XferReturn (turn s (xferProg [] r)) (draw (xferProg [] r)) r :=
  ⟨xferProg [] r, unitTurn_turn s _ hf hs hi, ⟨hx, .inr ⟨hn, rfl, rfl⟩⟩, rfl, rfl, rfl⟩

/-- Every premise of the statements about a transfer handler's return, for the status and the answer. -/
theorem witness_xfer_return (st : Status) (r : Bool) :
    XferReturn (turn (xfer st) (xferProg [] r)) (draw (xferProg [] r)) r ∧
    (turn (xfer st) (xferProg [] r)).ctx = .xferCb st :: [.isrI2c, .poll] ∧
    (turn (xfer st) (xferProg [] r)).queue[0]? = some ⟨0x68#7, true, 1#8⟩ :=
  ⟨xferReturn_turn _ _ rfl rfl rfl ⟨_, rfl⟩ rfl, rfl, rfl⟩

/-- A byte supplied and none, and a program in progress. -/
theorem witness_WriteHandlerAnswer :
    XferReturn (turn (xfer .transmitReady) (xferProg [] true)) (draw (xferProg [] true)) true ∧
    (turn (xfer .transmitReady) (xferProg [] true)).txPend = false ∧
    (let s := turn { xfer .byteTransmitted with txPend := true, xferCode := some (xferProg [] true) } idle
     XferReturn s (draw idle) true ∧ s.txPend = true ∧ s.ctx = .xferCb .byteTransmitted :: [.isrI2c, .poll]) :=
  ⟨(witness_xfer_return _ _).1, rfl,
    ⟨xferProg [] true, unitTurn_turn _ _ rfl rfl rfl, ⟨⟨_, rfl⟩, .inl rfl⟩, rfl, rfl, rfl⟩,
    rfl, rfl⟩

theorem witness_ReadHandlerAnswer :
    (let s := turn { xfer .byteReceived with nackReq := true } (xferProg [] true)
     XferReturn s (draw (xferProg [] true)) true ∧ s.nackReq = true) ∧
    (turn (xfer .receiveReady) (xferProg [] true)).nackReq = false ∧
    XferReturn (turn (xfer .receiveReady) (xferProg [] false)) (draw (xferProg [] false)) false :=
  ⟨⟨xferReturn_turn _ _ rfl rfl rfl ⟨_, rfl⟩ rfl, rfl⟩, rfl, (witness_xfer_return _ _).1⟩

theorem witness_ClosingStatusClosesTransfer :
    XferReturn (turn (xfer .nack) (xferProg [] true)) (draw (xferProg [] true)) true ∧
    (turn (xfer .nack) (xferProg [] true)).ctx = .xferCb .nack :: [.isrI2c, .poll] :=
  ⟨(witness_xfer_return _ _).1, rfl⟩

theorem witness_EventGetsExactlyOneCommand :
    (bus .slaW writeRing).busState ≠ .idle ∧ InCtx .isrI2c (bus .slaW writeRing) ∧
    (∃ t, exec (.i2cEvent 0x08#8 0#8) (bus .slaW writeRing) = .next t) ∧
    (turn (xfer .nack) (xferProg [] true)).busState ≠ .idle ∧
    XferReturn (turn (xfer .nack) (xferProg [] true)) (draw (xferProg [] true)) true ∧
    ∃ t, step (turn (xfer .nack) (xferProg [] true)) = .next t :=
  ⟨by decide, rfl, ⟨_, rfl⟩, by decide, (witness_xfer_return _ _).1, ⟨_, rfl⟩⟩

theorem witness_EncodeDecodeRoundTrip : decode 0x40010003#32 = .ok (.schedTask 1#8 3#16) := by decide

/-- The program in progress of each kind of software context, and an interrupt body. -/
theorem witness_issues (w : Word) :
    Issues (turn { boot with bootCode := some (issuing [w]) } idle) (draw idle) w { boot with bootCode := some idle } ∧
    Issues (turn { task with taskCode := some (issuing [w]) } idle) (draw idle) w { task with taskCode := some idle } ∧
    Issues (turn { xfer .nack with xferCode := some (issuing [w]) } idle) (draw idle) w
      { xfer .nack with xferCode := some idle } ∧
    Issues (turn { isr .isrTick with isrBody := [w] } idle) (draw idle) w (isr .isrTick) :=
  ⟨⟨unitTurn_turn _ _ rfl rfl rfl, .inl ⟨_, [], rfl, .inl ⟨⟨rfl, .inl rfl⟩, rfl⟩⟩⟩,
    ⟨unitTurn_turn _ _ rfl rfl rfl, .inl ⟨_, [], rfl, .inr (.inl ⟨⟨⟨0, rfl⟩, .inl rfl⟩, rfl⟩)⟩⟩,
    ⟨unitTurn_turn _ _ rfl rfl rfl, .inl ⟨_, [], rfl, .inr (.inr ⟨⟨⟨_, rfl⟩, .inl rfl⟩, rfl⟩)⟩⟩,
    ⟨unitTurn_turn _ _ rfl rfl rfl, .inr ⟨[], .inl rfl, rfl, rfl⟩⟩⟩

/-- A context's first step: the program drawn passes its checks. -/
theorem witness_issues_first :
    Issues (turn boot (issuing [0x20000000#32])) (draw (issuing [0x20000000#32])) 0x20000000#32
      { boot with bootCode := some idle } ∧
    Issues (turn task (taskProg [0x50000000#32] 1#16)) (draw (taskProg [0x50000000#32] 1#16)) 0x50000000#32
      { task with taskCode := some (taskProg [] 1#16) } ∧
    Issues (turn (xfer .nack) (xferProg [0x50000000#32] true)) (draw (xferProg [0x50000000#32] true)) 0x50000000#32
      { xfer .nack with xferCode := some (xferProg [] true) } :=
  ⟨⟨unitTurn_turn _ _ rfl rfl rfl, .inl ⟨_, [], rfl, .inl ⟨⟨rfl, .inr ⟨rfl, rfl, by unfold PairedBoot; decide⟩⟩, rfl⟩⟩⟩,
    ⟨unitTurn_turn _ _ rfl rfl rfl, .inl ⟨_, [], rfl, .inr (.inl ⟨⟨⟨0, rfl⟩,
      .inr ⟨rfl, rfl, by unfold PairedText; decide, fun _ => by decide⟩⟩, rfl⟩)⟩⟩,
    ⟨unitTurn_turn _ _ rfl rfl rfl, .inl ⟨_, [], rfl, .inr (.inr ⟨⟨⟨_, rfl⟩,
      .inr ⟨rfl, rfl, by unfold PairedText; decide⟩⟩, rfl⟩)⟩⟩⟩

/-- `OPC` 0x1F and 0, and a reserved bit of format ST. -/
theorem witness_BadWordsFaultBeforeContext :
    (∃ s s1 d, Issues s d 0xF8000000#32 s1) ∧ (∀ m, ((0xF8000000#32).toNat / 2 ^ 27, m) ∉ reservedBits) ∧
    (∃ s s1 d, Issues s d 0#32 s1) ∧ (∀ m, ((0#32).toNat / 2 ^ 27, m) ∉ reservedBits) ∧
    (∃ s s1 d, Issues s d 0x41000000#32 s1) ∧ ((0x41000000#32).toNat / 2 ^ 27, 0x07000000#32) ∈ reservedBits ∧
    0x41000000#32 &&& 0x07000000#32 ≠ 0#32 := by
  refine ⟨⟨_, _, _, (witness_issues _).1⟩, ?_, ⟨_, _, _, (witness_issues _).1⟩, ?_, ⟨_, _, _, (witness_issues _).1⟩,
    by decide, by decide⟩ <;> simp [reservedBits]

theorem witness_StatusCodesMapToEvents :
    (0x0F#8 &&& 0xF8#8 : Byte) = 0x08#8 ∧ (0x17#8 &&& 0xF8#8 : Byte) = 0x10#8 ∧ (0x1F#8 &&& 0xF8#8 : Byte) = 0x18#8 ∧
    (0x27#8 &&& 0xF8#8 : Byte) = 0x20#8 ∧ (0x2F#8 &&& 0xF8#8 : Byte) = 0x28#8 ∧ (0x37#8 &&& 0xF8#8 : Byte) = 0x30#8 ∧
    (0x3F#8 &&& 0xF8#8 : Byte) = 0x38#8 ∧ (0x47#8 &&& 0xF8#8 : Byte) = 0x40#8 ∧ (0x4F#8 &&& 0xF8#8 : Byte) = 0x48#8 ∧
    (0x57#8 &&& 0xF8#8 : Byte) = 0x50#8 ∧ (0x5F#8 &&& 0xF8#8 : Byte) = 0x58#8 ∧ (0x07#8 &&& 0xF8#8 : Byte) = 0x00#8 ∧
    0x58#8 < (0x60#8 &&& 0xF8#8 : Byte) := by decide

theorem witness_StepRunsIssuedWord :
    Issues (turn boot (issuing [0x20000000#32])) (draw (issuing [0x20000000#32])) 0x20000000#32
      { boot with bootCode := some idle } ∧
    decode 0x20000000#32 = .ok .run ∧ (turn boot idle).script = .execUnit (draw idle) :: [] :=
  ⟨witness_issues_first.1, by decide, rfl⟩

theorem witness_FaultedStateIsQuiescent :
    ({ boot with fault := 3#8 } : State).fault ≠ 0#8 ∧ ∃ t, step (turn boot (issuing [0x50000000#32])) = .next t :=
  ⟨by decide, _, rfl⟩

/-- Each source alone, and two at once with the preferred one pending. -/
theorem witness_PendingInterruptIsTakenFirst :
    (let s := turn { engine .scan with irqTick := true, irqI2c := true } idle
     s.fault = 0#8 ∧ s.nextTurn = .execUnit (draw idle) ∧ s.iFlag = true ∧ s.irqTick = true ∧
      s.irq (draw idle).irq = true) ∧
    (let s := turn { engine .halted with irqI2c := true } idle
     s.fault = 0#8 ∧ s.nextTurn = .execUnit (draw idle) ∧ s.iFlag = true ∧ s.irqI2c = true) ∧
    (let s := turn { task with irqOther := true } idle
     s.fault = 0#8 ∧ s.nextTurn = .execUnit (draw idle) ∧ s.iFlag = true ∧ s.irqOther = true) := by decide

/-- A halted engine below, and a body that leaves a bracket open over a task handler. -/
theorem witness_FinishedBodyExits :
    (let s := turn { isr .isrTick with phase := .halted } idle
     UnitTurn s (draw idle) ∧ s.ctx = .isrTick :: [.poll] ∧ s.isrBody = [] ∧
      ([Ctx.poll] : List Ctx).head? = some .poll ∧ s.phase = .halted) ∧
    (let s := turn { isr .isrOther with ctx := [.isrOther, .taskCb 0, .poll], brackets := [⟨3, false⟩] } idle
     UnitTurn s (draw idle) ∧ s.ctx = .isrOther :: [.taskCb 0, .poll] ∧ s.isrBody = [] ∧
      ¬ (([Ctx.taskCb 0, .poll] : List Ctx).head? = some .poll ∧ s.phase = .halted)) :=
  ⟨⟨unitTurn_turn _ _ rfl rfl rfl, rfl, rfl, rfl, rfl⟩, unitTurn_turn _ _ rfl rfl rfl, rfl, rfl, by simp⟩

theorem witness_TickInterruptResumesContext :
    let s := { task with irqTick := true, script := List.replicate 3 (.execUnit (draw idle)) }
    s.fault = 0#8 ∧ s.iFlag = true ∧ s.irqTick = true ∧ (draw idle).irq = .tick ∧
    s.script = .execUnit (draw idle) :: .execUnit (draw idle) :: .execUnit (draw idle) :: [] := by decide

/-- Programs that fail a check of R126 or R331: each is refused at the context's first step. -/
theorem witness_UnpairedProgramIsRefused :
    (let p := issuing [0x08000000#32, 0x20000000#32]
     UnitTurn (turn boot p) (draw p) ∧ InCtx .boot (turn boot p) ∧ (turn boot p).bootCode = none ∧ ¬ PairedBoot false p) ∧
    (let p := taskProg [0x08000000#32] 1#16
     UnitTurn (turn task p) (draw p) ∧ InTask (turn task p) ∧ (turn task p).taskCode = none ∧ ¬ PairedText true true p) ∧
    (let p := xferProg [0x08000000#32] true
     UnitTurn (turn (xfer .nack) p) (draw p) ∧ InXfer (turn (xfer .nack) p) ∧ (turn (xfer .nack) p).xferCode = none ∧
      ¬ PairedText false false p) ∧
    (let p := taskProg [0x10000000#32] 1#16
     UnitTurn (turn task p) (draw p) ∧ InTask (turn task p) ∧ PairedText true true p ∧ ¬ ReturnsEnabled true p) :=
  ⟨⟨unitTurn_turn _ _ rfl rfl rfl, rfl, rfl, by unfold PairedBoot; decide⟩,
    ⟨unitTurn_turn _ _ rfl rfl rfl, ⟨0, rfl⟩, rfl, by unfold PairedText; decide⟩,
    ⟨unitTurn_turn _ _ rfl rfl rfl, ⟨_, rfl⟩, rfl, by unfold PairedText; decide⟩,
    unitTurn_turn _ _ rfl rfl rfl, ⟨0, rfl⟩, by unfold PairedText; decide, by unfold ReturnsEnabled; decide⟩

/-- A task handler's return with `I = 0`; and two steps that are refused, one with each refusal. -/
theorem witness_UnpairedProgramIsRefused_ends :
    (let s := turn { task with iFlag := false, taskCode := some (taskProg [] 0#16) } idle
     TaskReturn s (draw idle) 0#16 ∧ s.iFlag = false ∧ step s = .refused .returnWithInterruptsOff) ∧
    step (turn boot (issuing [0x08000000#32])) = .refused .unpairedCriticalSection :=
  ⟨⟨⟨_, unitTurn_turn _ _ rfl rfl rfl, ⟨⟨0, rfl⟩, .inl rfl⟩, rfl, rfl, rfl⟩, rfl, rfl⟩, rfl⟩

theorem witness_EngineClearStep : EngineTurn (turn (engine .clear) idle) (draw idle) .clear := engineTurn_turn _ _

theorem witness_EngineDrainStep :
    EngineTurn (turn (engine .drain) idle) (draw idle) .drain ∧ (turn (engine .drain) idle).tickDelta = 0#16 ∧
    EngineTurn (turn { engine .drain with tickDelta := 1#16 } idle) (draw idle) .drain ∧ (1#16 : Ticks) ≠ 0#16 :=
  ⟨engineTurn_turn _ _, rfl, ⟨unitTurn_turn _ _ rfl rfl rfl, rfl, rfl, rfl⟩, by decide⟩

/-- Past the table, a free slot, a delay equal to the round's ticks, and one greater by one. -/
theorem witness_EngineScanStep :
    (let s := turn { engine .scan with cursor := 4 } idle
     EngineTurn s (draw idle) .scan ∧ s.tasks.length ≤ s.cursor) ∧
    (let s := turn { engine .scan with cursor := 3 } idle
     EngineTurn s (draw idle) .scan ∧ s.tasks[s.cursor]? = some ⟨0#16, 0#8⟩) ∧
    (let s := turn { engine .scan with tasks := [⟨3#16, 1#8⟩], roundTicks := 3#16 } idle
     EngineTurn s (draw idle) .scan ∧ s.tasks[s.cursor]? = some ⟨3#16, 1#8⟩ ∧ (3#16 : Ticks) ≠ 0#16 ∧
      (3#16 : Ticks).toNat ≤ s.roundTicks.toNat) ∧
    (let s := turn { engine .scan with tasks := [⟨4#16, 1#8⟩], roundTicks := 3#16 } idle
     EngineTurn s (draw idle) .scan ∧ s.tasks[s.cursor]? = some ⟨4#16, 1#8⟩ ∧
      s.roundTicks.toNat < (4#16 : Ticks).toNat) :=
  ⟨⟨⟨unitTurn_turn _ _ rfl rfl rfl, rfl, rfl, rfl⟩, by decide⟩,
    ⟨⟨unitTurn_turn _ _ rfl rfl rfl, rfl, rfl, rfl⟩, rfl⟩,
    ⟨⟨unitTurn_turn _ _ rfl rfl rfl, rfl, rfl, rfl⟩, rfl, by decide, by decide⟩,
    ⟨⟨unitTurn_turn _ _ rfl rfl rfl, rfl, rfl, rfl⟩, rfl, by decide⟩⟩

/-- A handler that returns at its first step, and one whose program is in progress. -/
theorem witness_TaskReturnReschedules :
    (let s := turn task (taskProg [] 0#16)
     TaskReturn s (draw (taskProg [] 0#16)) 0#16 ∧ s.ctx = .taskCb 0 :: [.poll] ∧ s.iFlag = true ∧
      s.tasks[0]? = some ⟨0#16, 0#8⟩) ∧
    (let s := turn { task with taskCode := some (taskProg [] 0xFFFF#16) } idle
     TaskReturn s (draw idle) 0xFFFF#16) :=
  ⟨⟨⟨_, unitTurn_turn _ _ rfl rfl rfl, ⟨⟨0, rfl⟩, .inr ⟨rfl, rfl, rfl, fun _ => rfl⟩⟩, rfl, rfl, rfl⟩, rfl, rfl,
      rfl⟩,
    _, unitTurn_turn _ _ rfl rfl rfl, ⟨⟨0, rfl⟩, .inl rfl⟩, rfl, rfl, rfl⟩

theorem witness_EnginePassEndStep :
    EngineTurn (turn (engine .passEnd) idle) (draw idle) .passEnd ∧ (turn (engine .passEnd) idle).nextTicks = 0#16 ∧
    EngineTurn (turn { engine .passEnd with nextTicks := 0xFFFF#16 } idle) (draw idle) .passEnd ∧
    (0xFFFF#16 : Ticks) ≠ 0#16 :=
  ⟨engineTurn_turn _ _, rfl, ⟨unitTurn_turn _ _ rfl rfl rfl, rfl, rfl, rfl⟩, by decide⟩

theorem witness_EngineBusPollStep :
    (let s := turn { engine .busPoll with queue := writeRing } idle
     EngineTurn s (draw idle) .busPoll ∧ s.busState = .idle ∧ s.queue[s.rp]? = some ⟨0x68#7, true, 1#8⟩ ∧
      (1#8 : Byte) ≠ 0#8) ∧
    (let s := turn (engine .busPoll) idle
     EngineTurn s (draw idle) .busPoll ∧ FreeSlot s s.rp) ∧
    (let s := turn { engine .busPoll with busState := .closingRead } idle
     EngineTurn s (draw idle) .busPoll ∧ s.busState ≠ .idle) :=
  ⟨⟨⟨unitTurn_turn _ _ rfl rfl rfl, rfl, rfl, rfl⟩, rfl, rfl, by decide⟩, ⟨engineTurn_turn _ _, _, rfl, rfl⟩,
    ⟨unitTurn_turn _ _ rfl rfl rfl, rfl, rfl, rfl⟩, by decide⟩

theorem witness_EngineSleepCheckStep :
    EngineTurn (turn (engine .sleepCheck) idle) (draw idle) .sleepCheck ∧
    (turn (engine .sleepCheck) idle).pollPending = false ∧ (draw idle).gate = true ∧
    EngineTurn (turn { engine .sleepCheck with pollPending := true } idle) (draw idle) .sleepCheck ∧
    (turn { engine .sleepCheck with pollPending := true } idle).pollPending = true ∧
    EngineTurn { engine .sleepCheck with script := [.execUnit ⟨.tick, false, idle⟩] } ⟨.tick, false, idle⟩ .sleepCheck :=
  ⟨engineTurn_turn _ _, rfl, rfl, ⟨unitTurn_turn _ _ rfl rfl rfl, rfl, rfl, rfl⟩, rfl,
    ⟨rfl, rfl, rfl, .inr ⟨rfl, rfl, rfl⟩⟩, rfl, rfl, rfl⟩

/-- The interrupt is pending while `I = 0` keeps the engine's step (I-5). -/
theorem witness_HaltTakesInterruptPendingAtCheck :
    let s := { engine .sleepCheck with
      iFlag := false, irqTick := true, script := [.execUnit (draw idle), .execUnit (draw idle)] }
    EngineTurn s (draw idle) .sleepCheck ∧ s.script = .execUnit (draw idle) :: .execUnit (draw idle) :: [] ∧
    s.pollPending = false ∧ (draw idle).gate = true ∧ s.irqTick = true :=
  ⟨⟨⟨rfl, rfl, rfl, .inl rfl⟩, rfl, rfl, rfl⟩, rfl, rfl, rfl, rfl⟩

theorem witness_QuiescentUntilDeviceFires :
    let s := { engine .halted with sleeping := true, script := [.tickTimer] }
    s.quiescent = true ∧ step s = .next { s with irqTick := true, script := [] } := by
  intro s
  exact ⟨by decide, rfl⟩

theorem witness_EngineHasNoStepWhileWaiting :
    EngineTurn (turn (engine .halted) idle) (draw idle) .halted ∧
    EngineTurn (turn (engine .inHandler) idle) (draw idle) .inHandler ∧
    (let s := turn { engine .halted with sleeping := true } idle
     s.fault = 0#8 ∧ s.nextTurn = .execUnit (draw idle) ∧ s.sleeping = true ∧ s.irqTick = false ∧ s.irqI2c = false ∧
      s.irqOther = false) :=
  ⟨engineTurn_turn _ _, engineTurn_turn _ _, by decide⟩

theorem witness_ScanPassReducesEveryTask :
    let s := { engine .scan with
      tasks := [⟨4#16, 1#8⟩, ⟨0#16, 2#8⟩], roundTicks := 3#16, script := List.replicate 2 (.execUnit (draw idle)) }
    s.fault = 0#8 ∧ s.sleeping = false ∧ s.irqTick = false ∧ s.irqI2c = false ∧ s.irqOther = false ∧
    s.runActive = true ∧ s.phase = .scan ∧ s.cursor = 0 ∧
    (∀ slot ∈ s.tasks, slot.delay = 0#16 ∨ s.roundTicks.toNat < slot.delay.toNat) ∧
    s.script = List.replicate s.tasks.length (.execUnit (draw idle)) ++ [] := by decide

theorem witness_DeviceFiringsSetPendingBits :
    boot.fault = 0#8 ∧ ({ boot with script := [.tickTimer] } : State).nextTurn = .tickTimer ∧
    ({ boot with script := [.otherDevice] } : State).nextTurn = .otherDevice ∧
    ({ boot with script := [.tickTimer, .tickTimer] } : State).script = .tickTimer :: .tickTimer :: [] := by decide

/-- A report the controller may make, one without a command, and an event `OTHER(c)` of a named code. -/
theorem witness_ControllerReportsEvent :
    (let s := { bus .slaW writeRing with ctrlWait := true, script := [.controller (.other 0xFF#8) 0#8] }
     s.fault = 0#8 ∧ s.nextTurn = .controller (.other 0xFF#8) 0#8 ∧ s.ctrlWait = true ∧ s.params.controllerMode = .any ∧
      defaultStatusMap.event (defaultStatusMap.codeOf (.other 0xFF#8)) = .other 0xFF#8) ∧
    (let s := { boot with script := [.controller .busError 0#8] }
     s.fault = 0#8 ∧ s.nextTurn = .controller .busError 0#8 ∧ s.ctrlWait = false) ∧
    defaultStatusMap.event (defaultStatusMap.codeOf (.other 0x08#8)) ≠ .other 0x08#8 := by decide

theorem witness_ConformingControllerReports :
    let s := { bus .slaW writeRing with
      ctrlWait := true, ctrlCmd := some .start, busOwned := false, script := [.controller .startSent 0#8],
      params := { boot.params with controllerMode := .conforming } }
    s.fault = 0#8 ∧ s.nextTurn = .controller .startSent 0#8 ∧ s.params.controllerMode = .conforming ∧
    s.ctrlWait = true ∧ s.params.statusMap.event (s.params.statusMap.codeOf .startSent) = .startSent ∧
    BusEvent.startSent ∈ conformingEvents s ∧ BusEvent.repStartSent ∉ conformingEvents s := by decide

theorem witness_OnlyThreeOperationsWriteFlagI :
    ∃ t, exec (.csExit true) boot = .next t ∧ t.iFlag ≠ boot.iFlag := ⟨_, rfl, by decide⟩

theorem witness_OperationsLeaveEngineAndDevicesAlone :
    ∃ t, exec .wait (engine .sleepCheck) = .next t ∧ t.sleeping ≠ (engine .sleepCheck).sleeping ∧
    Instr.wait ≠ .run ∧ Instr.wait ≠ .tick := ⟨_, rfl, by decide, by decide, by decide⟩

theorem witness_BusStateChangesOnlyInDriver :
    ∃ t, step (turn (xfer .nack) (xferProg [] true)) = .next t ∧ t.busState ≠ (xfer .nack).busState :=
  ⟨_, rfl, by decide⟩

theorem witness_WireGrowsByAtMostOneSymbol : ∃ t, step (turn (xfer .nack) (xferProg [] true)) = .next t := ⟨_, rfl⟩

theorem witness_EveryStepKeepsParameters :
    ∃ t, step (turn (engine .clear) idle) = .next t ∧ (turn (engine .clear) idle).runActive = true := ⟨_, rfl, rfl⟩

/-- The engine or a single interrupt over it, away from its halt, meets the invariant. -/
theorem inv_over_engine (s : State) (k : Nat) (hr : s.ringRun k)
    (hc : s.ctx = [.poll] ∨ (s.ctx = [.isrTick, .poll] ∧ s.iFlag = false ∧ s.isrBody = [tickWord]) ∨
      (s.ctx = [.isrI2c, .poll] ∧ s.iFlag = false ∧ ∃ c d, s.isrBody = [encode (.i2cEvent c d)]))
    (h : s.runActive = true ∧ s.phase ≠ .inHandler ∧ s.phase ≠ .halted ∧ s.sleeping = false ∧
      s.cursor ≤ s.tasks.length ∧ (s.phase ≠ .scan ∧ s.phase ≠ .passEnd → s.nextTicks = 0#16) ∧ s.rp < s.queue.length ∧
      (s.busState ≠ .idle → s.active.handler ≠ 0#8) ∧
      (s.busState = .idle → s.instantPend = false ∧ s.ctrlWait = false ∧ s.irqI2c = false ∧ s.answering = false) ∧
      (s.busState ≠ .idle → s.answering = false → (s.ctrlWait = true ↔ s.irqI2c = false)) ∧
      (s.answering = true → s.ctrlWait = false ∧ s.irqI2c = false)) : s.Inv := by
  obtain ⟨hrun, hph, hh, hs, hcur, htk, hrp, hact, hidle, hone, hans⟩ := h
  refine ⟨?_, ?_, ?_, ?_, fun _ h => absurd h hph, ?_, fun _ h => absurd h hh, hcur, ?_, hrp, ⟨k, hr⟩, hact, hidle, hone,
    hans, ?_, ?_, ?_⟩
  · rcases hc with hc | ⟨hc, -⟩ | ⟨hc, -⟩ <;> rw [hc] <;> rfl
  · rcases hc with hc | ⟨hc, hi, -⟩ | ⟨hc, hi, -⟩ <;> simp_all [State.inIsr, Ctx.isIsr]
  · rcases hc with hc | ⟨hc, -⟩ | ⟨hc, -⟩ <;> simp [hc, hrun]
  · rcases hc with hc | ⟨hc, -⟩ | ⟨hc, -⟩ <;> simp [hc]
  · simp [hs]
  · simpa [hrun, hph] using htk
  · rcases hc with hc | ⟨hc, -, hb⟩ | ⟨hc, -⟩ <;> simp_all
  · rcases hc with hc | ⟨hc, -⟩ | ⟨hc, -, hb⟩
    · simp [hc]
    · simp [hc]
    · exact fun _ => .inr hb
  · rcases hc with hc | ⟨hc, -⟩ | ⟨hc, -⟩ <;> simp [hc]

theorem ringRun_freeRing (s : State) (hq : s.queue = freeRing) (hr : s.rp = 0) : s.ringRun 0 := by
  simp only [State.ringRun, hq, hr]
  decide

/-- A tick counted, ticks drained, and ticks taken for another pass, in states that meet the invariant. -/
theorem witness_TicksAreNeitherLostNorDoubled :
    (let s := turn { isr .isrTick with isrBody := [tickWord], nextTicks := 2#16 } idle
     s.Inv ∧ ∃ t, step s = .next t) ∧
    (let s := turn { engine .drain with tickDelta := 3#16 } idle
     s.Inv ∧ ∃ t, step s = .next t) ∧
    (let s := turn { engine .passEnd with nextTicks := 2#16, cursor := 4 } idle
     s.Inv ∧ ∃ t, step s = .next t) :=
  ⟨⟨inv_over_engine _ 0 (ringRun_freeRing _ rfl rfl) (.inr (.inl ⟨rfl, rfl, rfl⟩)) (by decide), _, rfl⟩,
    ⟨inv_over_engine _ 0 (ringRun_freeRing _ rfl rfl) (.inl rfl) (by decide), _, rfl⟩,
    inv_over_engine _ 0 (ringRun_freeRing _ rfl rfl) (.inl rfl) (by decide), _, rfl⟩

theorem ringRun_writeRing (s : State) (hq : s.queue = writeRing) (hr : s.rp = 0) : s.ringRun 1 := by
  simp only [State.ringRun, hq, hr]
  decide

theorem witness_RequestsAreServedInQueueOrder :
    (let s := { boot with queue := writeRing }
     InCtx .boot s ∧ (1#8 : Byte) ≠ 0#8 ∧ s.rp < s.queue.length ∧ s.ringRun 1 ∧ 1 < s.queue.length) ∧
    (let s := { boot with queue := [⟨0x68#7, true, 1#8⟩] }
     InCtx .boot s ∧ s.rp < s.queue.length ∧ s.ringRun 1 ∧ 1 = s.queue.length) :=
  ⟨⟨rfl, by decide, by decide, ringRun_writeRing _ rfl rfl, by decide⟩, rfl, by decide, by
    simp only [State.ringRun]; decide, rfl⟩

/-- A request waits behind the active one, which closes; and a request is started. -/
theorem witness_RequestsAreServedInQueueOrder_step :
    (let s := turn { bus .closingRead [⟨0x68#7, false, 2#8⟩, ⟨0x50#7, true, 3#8⟩] with
        isrBody := [encode (.i2cEvent 0x58#8 0#8)] } idle
     s.Inv ∧ 1 ≠ s.rp ∧ s.queue[1]? = some ⟨0x50#7, true, 3#8⟩ ∧ Occupied s s.rp ∧
      ∃ t, step s = .next t ∧ t.rp ≠ s.rp ∧ FreeSlot t s.rp) ∧
    (let s := turn { engine .busPoll with queue := writeRing } idle
     s.Inv ∧ ∃ t, step s = .next t ∧ t.wire = s.wire ++ [.s]) :=
  ⟨⟨inv_over_engine _ 2 (by simp only [State.ringRun]; decide) (.inr (.inr ⟨rfl, rfl, _, _, rfl⟩)) (by decide), by decide,
      rfl, ⟨_, rfl, by decide⟩, _, rfl, by decide, _, rfl, rfl⟩,
    inv_over_engine _ 1 (ringRun_writeRing _ rfl rfl) (.inl rfl) (by decide), _, rfl, rfl⟩

theorem witness_RepeatingChangesNothing :
    (∃ t, exec .schedPoll boot = .next t) ∧ (∃ t, exec .i2cNack (xfer .receiveReady) = .next t) ∧
    (∃ t, exec .i2cPoll { boot with queue := writeRing } = .next t) ∧ ∃ t, exec (.unschedTask 255#8) boot = .next t :=
  ⟨⟨_, rfl⟩, ⟨_, rfl⟩, ⟨_, rfl⟩, ⟨_, rfl⟩⟩

theorem witness_CleanEntryMeetsInvariant :
    (let s := { boot with phase := .halted, ctrlCode := 0xFF#8, draws := 7 }
     s.cleanEntry ∧ 1 ≤ s.queue.length) := ⟨rfl, by decide⟩

/-- A bus interrupt about to run its event word meets the invariant, and its step answers a next state without fault. -/
theorem witness_EveryStepKeepsInvariant :
    let s := turn { bus .slaW writeRing with isrBody := [encode (.i2cEvent 0x08#8 0#8)] } idle
    s.Inv ∧ ∃ t, step s = .next t ∧ t.fault = 0#8 :=
  ⟨inv_over_engine _ 1 (ringRun_writeRing _ rfl rfl) (.inr (.inr ⟨rfl, rfl, _, _, rfl⟩)) (by decide), _, rfl, by decide⟩

theorem witness_BusEventsAreNeverSpurious :
    let s := turn { bus .slaW writeRing with isrBody := [encode (.i2cEvent 0x08#8 0#8)] } idle
    s.Inv ∧ ∃ t, step s = .next t :=
  ⟨witness_EveryStepKeepsInvariant.1, _, rfl⟩

end Sys2Proof.Tests
end

section
/-! The fixed part of the state: the parameters, the two table sizes and the latch `RUN_ACTIVE` (00_scope.md R6,
70_reset_and_hazards.md R320, 10_state.md R32). One lemma for each kind of state change says that it keeps them. -/

namespace Sys2Proof.Machine

/-- From `s` to `t` the parameters and the table sizes stay, and `RUN_ACTIVE` is not cleared. -/
structure SetupKept (s t : State) : Prop where
  params : t.params = s.params
  tasksLength : t.tasks.length = s.tasks.length
  queueLength : t.queue.length = s.queue.length
  runActive : s.runActive = true → t.runActive = true

theorem SetupKept.refl (s : State) : SetupKept s s := ⟨rfl, rfl, rfl, id⟩

theorem SetupKept.trans {s t u : State} (hst : SetupKept s t) (htu : SetupKept t u) : SetupKept s u :=
  ⟨htu.params.trans hst.params, htu.tasksLength.trans hst.tasksLength, htu.queueLength.trans hst.queueLength,
    fun h => htu.runActive (hst.runActive h)⟩

/-- A change that leaves `RUN_ACTIVE` as it is. -/
theorem SetupKept.of_eq {s t : State} (hp : t.params = s.params) (ht : t.tasks.length = s.tasks.length)
    (hq : t.queue.length = s.queue.length) (hr : t.runActive = s.runActive) : SetupKept s t :=
  ⟨hp, ht, hq, hr.trans⟩

theorem DriverFrame.setupKept {s t : State} (h : DriverFrame s t) : SetupKept s t :=
  ⟨h.params, by rw [h.tasks], h.queueLength, h.runActive.trans⟩

-- The shared operations

theorem raise_keepsSetup (s : State) (c : FaultCode) : SetupKept s (s.raise c) := .of_eq rfl rfl rfl rfl

theorem returns_keepsSetup (s : State) (r : Result) : SetupKept s (s.returns r) := .of_eq rfl rfl rfl rfl

theorem drawn_keepsSetup (s : State) : SetupKept s s.drawn := .of_eq (by simp) (by simp) (by simp) (by simp)

theorem withCode_keepsSetup (s : State) (p : Program) : SetupKept s (s.withCode p) :=
  .of_eq (by simp) (by simp) (by simp) (by simp)

theorem interruptEntry_keepsSetup (x : IrqSource) (s : State) : SetupKept s (interruptEntry x s) :=
  .of_eq (by simp) (by simp) (by simp) (by simp)

theorem controllerReports_keepsSetup (ev : BusEvent) (d : Byte) (s : State) :
    SetupKept s (controllerReports ev d s) := by
  unfold controllerReports
  split
  · exact .of_eq rfl rfl rfl rfl
  · exact .refl s

theorem busRow_keepsSetup (s : State) (ev : BusEvent) (b : Byte) : SetupKept s (s.busRow ev b) := by
  obtain ⟨-, h⟩ | ⟨-, next, -, h⟩ | ⟨-, h⟩ | ⟨-, st, d, h⟩ | ⟨-, st, d, h⟩ := busRow_cases s ev b <;> rw [h]
  · exact raise_keepsSetup s _
  · exact (sendAddress_frame s next).setupKept
  · exact (closeTransfer_frame s).setupKept
  · exact .of_eq rfl rfl rfl rfl
  · exact .of_eq rfl rfl rfl rfl

-- The operations (30_encoding.md R92)

theorem effectSchedTask_keepsSetup (h : Byte) (delay : Ticks) (s : State) :
    SetupKept s (effectSchedTask h delay s) := by
  unfold effectSchedTask
  split
  · exact raise_keepsSetup s _
  split
  · exact raise_keepsSetup s _
  split
  · exact .of_eq rfl List.length_set rfl rfl
  · exact returns_keepsSetup s _

theorem effectUnschedTask_keepsSetup (id : Byte) (s : State) : SetupKept s (effectUnschedTask id s) := by
  unfold effectUnschedTask
  split
  · exact raise_keepsSetup s _
  · exact .of_eq rfl (List.length_modify ..) rfl rfl

theorem effectI2cReq_keepsSetup (addr : SlaveAddr) (rw : Bool) (h : Byte) (s : State) :
    SetupKept s (effectI2cReq addr rw h s) := by
  unfold effectI2cReq
  split
  · exact raise_keepsSetup s _
  split
  · exact .of_eq rfl rfl List.length_set rfl
  · exact returns_keepsSetup s _

theorem effectI2cReqi_keepsSetup (addr : SlaveAddr) (rw : Bool) (h : Byte) (s : State) :
    SetupKept s (effectI2cReqi addr rw h s) := by
  unfold effectI2cReqi
  split
  · exact raise_keepsSetup s _
  · exact .of_eq rfl rfl List.length_set rfl

theorem effectI2cEvent_keepsSetup (code data : Byte) (s : State) : SetupKept s (effectI2cEvent code data s) := by
  unfold effectI2cEvent
  split
  · exact .of_eq rfl rfl rfl rfl
  · have hpoll : SetupKept s { s with pollPending := true } := .of_eq rfl rfl rfl rfl
    exact (hpoll.trans (busRow_keepsSetup _ _ _)).trans (returns_keepsSetup _ _)

/-- `RUN` is the one operation that writes `RUN_ACTIVE`, and it sets it (42_scheduler.md R150). -/
theorem effectRun_keepsSetup (s : State) : SetupKept s (effectRun s) := ⟨rfl, rfl, rfl, fun _ => rfl⟩

theorem effectOf_keepsSetup (i : Instr) (s : State) : SetupKept s (effectOf i s) := by
  cases i with
  | csEnter => exact .of_eq rfl rfl rfl rfl
  | csExit t => exact .of_eq rfl rfl rfl rfl
  | wait => exact .of_eq rfl rfl rfl rfl
  | run => exact effectRun_keepsSetup s
  | schedTask h delay => exact effectSchedTask_keepsSetup h delay s
  | unschedTask id => exact effectUnschedTask_keepsSetup id s
  | schedPoll => exact .of_eq rfl rfl rfl rfl
  | tick => exact .of_eq rfl rfl rfl rfl
  | i2cReq addr rw h => exact effectI2cReq_keepsSetup addr rw h s
  | i2cReqi addr rw h => exact effectI2cReqi_keepsSetup addr rw h s
  | i2cNack => exact .of_eq rfl rfl rfl rfl
  | i2cTx data => exact .of_eq rfl rfl rfl rfl
  | i2cPoll => exact (busPoll_frame s).setupKept.trans (returns_keepsSetup _ _)
  | i2cEvent code data => exact effectI2cEvent_keepsSetup code data s

theorem exec_keepsSetup {i : Instr} {s t : State} (h : exec i s = .next t) : SetupKept s t := by
  rw [exec_eq] at h
  cases h
  split
  · exact effectOf_keepsSetup i s
  · exact raise_keepsSetup s _

-- The engine's micro-steps (42_scheduler.md R160) and the steps of programs

theorem engineDrain_keepsSetup (s : State) : SetupKept s (engineDrain s) := by
  unfold engineDrain
  split <;> exact .of_eq rfl rfl rfl rfl

theorem engineScan_keepsSetup (s : State) : SetupKept s (engineScan s) := by
  unfold engineScan
  split
  · exact .of_eq rfl rfl rfl rfl
  split
  · exact .of_eq rfl rfl rfl rfl
  split <;> exact .of_eq rfl List.length_set rfl rfl

theorem enginePassEnd_keepsSetup (s : State) : SetupKept s (enginePassEnd s) := by
  unfold enginePassEnd
  split <;> exact .of_eq rfl rfl rfl rfl

theorem engineBusPoll_keepsSetup (s : State) : SetupKept s (engineBusPoll s) :=
  (busPoll_frame s).setupKept.trans (.of_eq rfl rfl rfl rfl)

theorem engineSleepCheck_keepsSetup (gate : Bool) (s : State) : SetupKept s (engineSleepCheck gate s) := by
  unfold engineSleepCheck
  split <;> exact .of_eq rfl rfl rfl rfl

theorem engineStep_keepsSetup (gate : Bool) (s : State) : SetupKept s (engineStep gate s) := by
  unfold engineStep
  split
  · cases s.phase with
    | clear => exact .of_eq rfl rfl rfl rfl
    | drain => exact engineDrain_keepsSetup s
    | scan => exact engineScan_keepsSetup s
    | inHandler => exact .refl s
    | passEnd => exact enginePassEnd_keepsSetup s
    | busPoll => exact engineBusPoll_keepsSetup s
    | sleepCheck => exact engineSleepCheck_keepsSetup gate s
    | halted => exact .refl s
  · exact .refl s

theorem taskReturn_keepsSetup (i : Nat) (r : Ticks) (s : State) : SetupKept s (taskReturn i r s) :=
  .of_eq rfl (List.length_modify ..) rfl rfl

/-- Issuing a word moves the program or the interrupt body on, and nothing of the setup. -/
theorem Decodes.keepsSetup {s s1 : State} {w : Word} (h : Decodes s w s1) : SetupKept s s1 := by
  cases h with
  | program => exact (drawn_keepsSetup s).trans (withCode_keepsSetup _ _)
  | body => exact (drawn_keepsSetup s).trans (.of_eq rfl rfl rfl rfl)

theorem StepCase.keepsSetup {s t : State} (h : StepCase s t) : SetupKept s t := by
  have hdraw := drawn_keepsSetup s
  cases h with
  | timer => exact hdraw.trans (.of_eq rfl rfl rfl rfl)
  | otherDevice => exact hdraw.trans (.of_eq rfl rfl rfl rfl)
  | controller ev d => exact hdraw.trans (controllerReports_keepsSetup ev d _)
  | noStep => exact hdraw
  | hang p => exact hdraw.trans (withCode_keepsSetup _ p)
  | entry x => exact hdraw.trans (interruptEntry_keepsSetup x _)
  | engine d => exact hdraw.trans (engineStep_keepsSetup d.gate _)
  | badWord s1 w hd => exact hd.keepsSetup.trans (raise_keepsSetup s1 _)
  | word s1 w hd hs i hw t ht => exact hd.keepsSetup.trans (exec_keepsSetup ht)
  | exit => exact hdraw.trans (.of_eq rfl rfl rfl rfl)
  | taskReturn i r => exact hdraw.trans (taskReturn_keepsSetup i r _)
  | xferReturn st r =>
    have hpop : SetupKept s.drawn s.drawn.pop := .of_eq rfl rfl rfl rfl
    exact (hdraw.trans hpop).trans (afterHandler_frame _ st r).setupKept

/-- Settles O53, by the cases of a step: no case writes the parameters, the tables change only slot by slot, and `RUN`,
the one operation that writes `RUN_ACTIVE`, sets it. -/
theorem everyStepKeepsParameters : Obligations.EveryStepKeepsParameters := by
  unfold Obligations.EveryStepKeepsParameters
  intro s t h
  obtain ⟨hp, ht, hq, hr⟩ := (step_cases h).2.keepsSetup
  exact ⟨hp, ht, hq, hr⟩

end Sys2Proof.Machine
end

section
/-! What an operation leaves alone (10_state.md R22, R23, R32 to R34, R46), said once for all fourteen. -/

namespace Sys2Proof.Machine

/-- The part of the state outside the bus driver that an operation may change only if it is `CS_ENTER`, `CS_EXIT`, `WAIT`,
`RUN` or `TICK`. -/
structure QuietOp (s t : State) : Prop where
  roundTicks : t.roundTicks = s.roundTicks
  nextTicks : t.nextTicks = s.nextTicks
  cursor : t.cursor = s.cursor
  irqTick : t.irqTick = s.irqTick
  irqOther : t.irqOther = s.irqOther
  isrBody : t.isrBody = s.isrBody
  script : t.script = s.script
  phase : t.phase = s.phase
  runActive : t.runActive = s.runActive
  tickCount : t.tickCount = s.tickCount
  tickDelta : t.tickDelta = s.tickDelta
  sleeping : t.sleeping = s.sleeping
  iFlag : t.iFlag = s.iFlag

theorem DriverFrame.quietOp {s t : State} (h : DriverFrame s t) : QuietOp s t :=
  ⟨h.roundTicks, h.nextTicks, h.cursor, h.irqTick, h.irqOther, h.isrBody, h.script, h.phase, h.runActive, h.tickCount,
    h.tickDelta, h.sleeping, h.iFlag⟩

theorem raise_quietOp (s : State) (c : FaultCode) : QuietOp s (s.raise c) := by constructor <;> rfl

theorem effectSchedTask_quietOp (h : Byte) (delay : Ticks) (s : State) : QuietOp s (effectSchedTask h delay s) := by
  unfold effectSchedTask
  split
  · exact raise_quietOp s _
  split
  · exact raise_quietOp s _
  split <;> constructor <;> rfl

theorem effectUnschedTask_quietOp (id : Byte) (s : State) : QuietOp s (effectUnschedTask id s) := by
  unfold effectUnschedTask
  split
  · exact raise_quietOp s _
  · constructor <;> rfl

theorem effectI2cReq_quietOp (addr : SlaveAddr) (rw : Bool) (h : Byte) (s : State) :
    QuietOp s (effectI2cReq addr rw h s) := by
  unfold effectI2cReq
  split
  · exact raise_quietOp s _
  split <;> constructor <;> rfl

theorem effectI2cReqi_quietOp (addr : SlaveAddr) (rw : Bool) (h : Byte) (s : State) :
    QuietOp s (effectI2cReqi addr rw h s) := by
  unfold effectI2cReqi
  split
  · exact raise_quietOp s _
  · constructor <;> rfl

theorem busRow_quietOp (s : State) (ev : BusEvent) (b : Byte) : QuietOp s (s.busRow ev b) := by
  obtain ⟨-, h⟩ | ⟨-, next, -, h⟩ | ⟨-, h⟩ | ⟨-, st, d, h⟩ | ⟨-, st, d, h⟩ := busRow_cases s ev b <;> rw [h]
  · exact raise_quietOp s _
  · exact (sendAddress_frame s next).quietOp
  · exact (closeTransfer_frame s).quietOp
  · constructor <;> rfl
  · constructor <;> rfl

theorem effectI2cEvent_quietOp (code data : Byte) (s : State) : QuietOp s (effectI2cEvent code data s) := by
  unfold effectI2cEvent
  split
  · constructor <;> rfl
  · obtain ⟨⟩ := busRow_quietOp { s with pollPending := true } (s.params.statusMap.event code) data
    constructor <;> assumption

theorem effectI2cPoll_quietOp (s : State) : QuietOp s (effectI2cPoll s) := by
  obtain ⟨⟩ := (busPoll_frame s).quietOp
  constructor <;> assumption

/-- What each operation may change of that part (10_state.md R22, R23, R32, R46). -/
structure OperationFrame (i : Instr) (s t : State) : Prop where
  roundTicks : t.roundTicks = s.roundTicks
  nextTicks : t.nextTicks = s.nextTicks
  cursor : t.cursor = s.cursor
  irqTick : t.irqTick = s.irqTick
  irqOther : t.irqOther = s.irqOther
  isrBody : t.isrBody = s.isrBody
  script : t.script = s.script
  phase : i ≠ .run → t.phase = s.phase
  runActive : i ≠ .run → t.runActive = s.runActive
  tickCount : i ≠ .tick → t.tickCount = s.tickCount
  tickDelta : i ≠ .tick → t.tickDelta = s.tickDelta
  sleeping : t.sleeping ≠ s.sleeping → i = .wait
  iFlag : t.iFlag ≠ s.iFlag →
    (i = .csEnter ∧ t.iFlag = false) ∨ (∃ b, i = .csExit b ∧ t.iFlag = b) ∨ (i = .wait ∧ t.iFlag = true)

theorem QuietOp.operationFrame {s t : State} (i : Instr) (h : QuietOp s t) : OperationFrame i s t :=
  ⟨h.roundTicks, h.nextTicks, h.cursor, h.irqTick, h.irqOther, h.isrBody, h.script, fun _ => h.phase,
    fun _ => h.runActive, fun _ => h.tickCount, fun _ => h.tickDelta, fun hs => absurd h.sleeping hs,
    fun hi => absurd h.iFlag hi⟩

theorem effectOf_frame (i : Instr) (s : State) : OperationFrame i s (effectOf i s) := by
  cases i with
  | csEnter =>
    exact ⟨rfl, rfl, rfl, rfl, rfl, rfl, rfl, fun _ => rfl, fun _ => rfl, fun _ => rfl, fun _ => rfl,
      fun h => absurd rfl h, fun _ => .inl ⟨rfl, rfl⟩⟩
  | csExit t =>
    exact ⟨rfl, rfl, rfl, rfl, rfl, rfl, rfl, fun _ => rfl, fun _ => rfl, fun _ => rfl, fun _ => rfl,
      fun h => absurd rfl h, fun _ => .inr (.inl ⟨t, rfl, rfl⟩)⟩
  | wait =>
    exact ⟨rfl, rfl, rfl, rfl, rfl, rfl, rfl, fun _ => rfl, fun _ => rfl, fun _ => rfl, fun _ => rfl,
      fun _ => rfl, fun _ => .inr (.inr ⟨rfl, rfl⟩)⟩
  | run =>
    exact ⟨rfl, rfl, rfl, rfl, rfl, rfl, rfl, fun h => absurd rfl h, fun h => absurd rfl h, fun _ => rfl, fun _ => rfl,
      fun h => absurd rfl h, fun h => absurd rfl h⟩
  | tick =>
    exact ⟨rfl, rfl, rfl, rfl, rfl, rfl, rfl, fun _ => rfl, fun _ => rfl, fun h => absurd rfl h, fun h => absurd rfl h,
      fun h => absurd rfl h, fun h => absurd rfl h⟩
  | schedTask h delay => exact (effectSchedTask_quietOp h delay s).operationFrame _
  | unschedTask id => exact (effectUnschedTask_quietOp id s).operationFrame _
  | schedPoll => exact QuietOp.operationFrame _ (by constructor <;> rfl)
  | i2cReq addr rw h => exact (effectI2cReq_quietOp addr rw h s).operationFrame _
  | i2cReqi addr rw h => exact (effectI2cReqi_quietOp addr rw h s).operationFrame _
  | i2cNack => exact QuietOp.operationFrame _ (by constructor <;> rfl)
  | i2cTx data => exact QuietOp.operationFrame _ (by constructor <;> rfl)
  | i2cPoll => exact (effectI2cPoll_quietOp s).operationFrame _
  | i2cEvent code data => exact (effectI2cEvent_quietOp code data s).operationFrame _

theorem exec_frame {i : Instr} {s t : State} (h : exec i s = .next t) : OperationFrame i s t := by
  rw [exec_eq] at h
  cases h
  split
  · exact effectOf_frame i s
  · exact (raise_quietOp s _).operationFrame i

/-- Settles O49: the frame of the operations names the three that write `I`, each with the value it writes. -/
theorem onlyThreeOperationsWriteFlagI : Obligations.OnlyThreeOperationsWriteFlagI := by
  unfold Obligations.OnlyThreeOperationsWriteFlagI
  intro i s t h hi
  exact (exec_frame h).iFlag hi

/-- Settles O50: the frame of the operations, with what every one of them keeps of the parameters and the tables. -/
theorem operationsLeaveEngineAndDevicesAlone : Obligations.OperationsLeaveEngineAndDevicesAlone := by
  unfold Obligations.OperationsLeaveEngineAndDevicesAlone
  intro i s t h
  have hf := exec_frame h
  have hk := exec_keepsSetup h
  exact ⟨hf.roundTicks, hf.nextTicks, hf.cursor, hf.irqTick, hf.irqOther, hk.params, hf.isrBody, hf.script,
    hk.tasksLength, hk.queueLength, fun hr => ⟨hf.phase hr, hf.runActive hr⟩,
    fun ht => ⟨hf.tickCount ht, hf.tickDelta ht⟩, hf.sleeping⟩

end Sys2Proof.Machine
end

section
/-! The invariant in parts (10_state.md R50): the context stack with the interrupt bodies, the engine, the halt, the
request ring, and the bus driver's dialogue with the controller. -/

namespace Sys2Proof.Machine

/-- The context stack is legal, interrupt context runs with `I = 0`, and its body is that of its source. -/
structure StackInv (s : State) : Prop where
  stack : legalStack s.ctx = true
  isrDisabled : s.inIsr = true → s.iFlag = false
  tickBody : s.ctx.head? = some .isrTick → s.isrBody = [] ∨ s.isrBody = [tickWord]
  busBody : s.ctx.head? = some .isrI2c → s.isrBody = [] ∨ ∃ c d, s.isrBody = [encode (.i2cEvent c d)]
  handlerBody : (∃ st, s.ctx.head? = some (.xferCb st)) → s.isrBody = []

/-- R50 item 1 with the engine's latches: `RUN_ACTIVE`, the cursor, and the ticks of the pass. -/
structure EngineInv (s : State) : Prop where
  bootBeforeRun : Ctx.boot ∈ s.ctx ↔ s.runActive = false
  taskAtCursor : ∀ i, Ctx.taskCb i ∈ s.ctx → s.phase = .inHandler ∧ i = s.cursor ∧ i < s.tasks.length
  handlerRuns : s.runActive = true → s.phase = .inHandler → ∃ i, Ctx.taskCb i ∈ s.ctx
  cursorBound : s.cursor ≤ s.tasks.length
  ticksSettled : s.runActive = false ∨ (s.phase ≠ .scan ∧ s.phase ≠ .inHandler ∧ s.phase ≠ .passEnd) →
    s.nextTicks = 0#16

/-- The processor sleeps exactly in the engine's halt (45_sleep_gate.md R272). -/
structure SleepInv (s : State) : Prop where
  asleep : s.sleeping = true → s.ctx = [.poll] ∧ s.phase = .halted ∧ s.iFlag = true
  haltedAsleep : s.ctx = [.poll] → s.phase = .halted → s.sleeping = true

/-- The execution unit's parts. -/
structure UnitInv (s : State) : Prop where
  stack : StackInv s
  engine : EngineInv s
  sleep : SleepInv s

/-- R50 items 2 and 3: one run of requests from `RP`, not empty while a transfer is active. -/
structure RingInv (s : State) : Prop where
  rpBound : s.rp < s.queue.length
  ring : ∃ k, s.ringRun k
  activeOccupied : s.busState ≠ .idle → s.active.handler ≠ 0#8

/-- R50 items 4 and 5: the driver is idle and quiet, waits for one command or event, or answers one. -/
structure BusInv (s : State) : Prop where
  idleQuiet : s.busState = .idle →
    s.instantPend = false ∧ s.ctrlWait = false ∧ s.irqI2c = false ∧ s.answering = false
  oneOutstanding : s.busState ≠ .idle → s.answering = false → (s.ctrlWait = true ↔ s.irqI2c = false)
  answeringQuiet : s.answering = true → s.ctrlWait = false ∧ s.irqI2c = false

theorem inv_iff (s : State) : s.Inv ↔ UnitInv s ∧ RingInv s ∧ BusInv s := by
  constructor
  · intro h
    exact ⟨⟨⟨h.stack, h.isrDisabled, h.tickBody, h.busBody, h.handlerBody⟩,
      ⟨h.bootBeforeRun, h.taskAtCursor, h.handlerRuns, h.cursorBound, h.ticksSettled⟩, ⟨h.asleep, h.haltedAsleep⟩⟩,
      ⟨h.rpBound, h.ring, h.activeOccupied⟩, ⟨h.idleQuiet, h.oneOutstanding, h.answeringQuiet⟩⟩
  · rintro ⟨⟨hst, hen, hsl⟩, hr, hb⟩
    exact ⟨hst.stack, hst.isrDisabled, hen.bootBeforeRun, hen.taskAtCursor, hen.handlerRuns, hsl.asleep,
      hsl.haltedAsleep, hen.cursorBound, hen.ticksSettled, hr.rpBound, hr.ring, hr.activeOccupied, hb.idleQuiet,
      hb.oneOutstanding, hb.answeringQuiet, hst.tickBody, hst.busBody, hst.handlerBody⟩

theorem State.Inv.unit {s : State} (h : s.Inv) : UnitInv s := ((inv_iff s).1 h).1
theorem State.Inv.ringInv {s : State} (h : s.Inv) : RingInv s := ((inv_iff s).1 h).2.1
theorem State.Inv.bus {s : State} (h : s.Inv) : BusInv s := ((inv_iff s).1 h).2.2
theorem UnitInv.inv {s : State} (hu : UnitInv s) (hr : RingInv s) (hb : BusInv s) : s.Inv := (inv_iff s).2 ⟨hu, hr, hb⟩

-- The context stack

/-- An interrupt context, or the transfer handler over one: what stands on the stack above its base. -/
def Ctx.aboveBase (c : Ctx) : Prop := c.isIsr = true ∨ ∃ st, c = .xferCb st

theorem boot_mem_cons {c : Ctx} (hc : c.aboveBase) (l : List Ctx) : Ctx.boot ∈ c :: l ↔ Ctx.boot ∈ l := by
  have : c ≠ .boot := by rintro rfl; simp [Ctx.aboveBase, Ctx.isIsr] at hc
  simp [this.symm]

theorem taskCb_mem_cons {c : Ctx} (hc : c.aboveBase) (l : List Ctx) (i : Nat) :
    Ctx.taskCb i ∈ c :: l ↔ Ctx.taskCb i ∈ l := by
  have : c ≠ .taskCb i := by rintro rfl; simp [Ctx.aboveBase, Ctx.isIsr] at hc
  simp [this.symm]

theorem isIsr_cases {c : Ctx} (h : c.isIsr = true) : c = .isrTick ∨ c = .isrI2c ∨ c = .isrOther := by
  cases c <;> simp_all [Ctx.isIsr]

theorem legalBase_no_isr {l : List Ctx} (h : legalBase l = true) : l.any Ctx.isIsr = false := by
  obtain rfl | rfl | ⟨i, rfl⟩ := (legalBase_iff l).1 h <;> rfl

theorem legalBase_legalStack {l : List Ctx} (h : legalBase l = true) : legalStack l = true :=
  (legalStack_iff l).2 ⟨l, h, .inl rfl⟩

section heads
variable {l : List Ctx} (h : legalStack l = true)
include h

/-- A stack without interrupt context is a base. -/
theorem legalStack_base (hn : l.any Ctx.isIsr = false) : legalBase l = true := by
  obtain ⟨base, hb, rfl | rfl | rfl | rfl | ⟨st, rfl⟩⟩ := (legalStack_iff l).1 h
  · exact hb
  all_goals simp [Ctx.isIsr] at hn

theorem legalStack_poll (hc : l.head? = some .poll) : l = [.poll] := by
  obtain ⟨base, hb, rfl | rfl | rfl | rfl | ⟨st, rfl⟩⟩ := (legalStack_iff l).1 h
  · obtain rfl | rfl | ⟨i, rfl⟩ := (legalBase_iff _).1 hb <;> simp_all
  all_goals simp at hc

theorem legalStack_boot (hc : l.head? = some .boot) : l = [.boot] := by
  obtain ⟨base, hb, rfl | rfl | rfl | rfl | ⟨st, rfl⟩⟩ := (legalStack_iff l).1 h
  · obtain rfl | rfl | ⟨i, rfl⟩ := (legalBase_iff _).1 hb <;> simp_all
  all_goals simp at hc

theorem legalStack_task {i : Nat} (hc : l.head? = some (.taskCb i)) : l = [.taskCb i, .poll] := by
  obtain ⟨base, hb, rfl | rfl | rfl | rfl | ⟨st, rfl⟩⟩ := (legalStack_iff l).1 h
  · obtain rfl | rfl | ⟨i, rfl⟩ := (legalBase_iff _).1 hb <;> simp_all
  all_goals simp at hc

theorem legalStack_isr {c : Ctx} (hi : c.isIsr = true) (hc : l.head? = some c) :
    ∃ base, l = c :: base ∧ legalBase base = true := by
  obtain ⟨base, hb, rfl | rfl | rfl | rfl | ⟨st, rfl⟩⟩ := (legalStack_iff l).1 h
  · obtain rfl | rfl | ⟨i, rfl⟩ := (legalBase_iff _).1 hb <;> obtain rfl := Option.some.inj hc <;> cases hi
  all_goals obtain rfl := Option.some.inj hc
  · exact ⟨base, rfl, hb⟩
  · exact ⟨base, rfl, hb⟩
  · exact ⟨base, rfl, hb⟩
  · cases hi

theorem legalStack_xfer {st : Status} (hc : l.head? = some (.xferCb st)) :
    ∃ base, l = .xferCb st :: .isrI2c :: base ∧ legalBase base = true := by
  obtain ⟨base, hb, rfl | rfl | rfl | rfl | ⟨st, rfl⟩⟩ := (legalStack_iff l).1 h
  · obtain rfl | rfl | ⟨i, rfl⟩ := (legalBase_iff _).1 hb <;> simp at hc
  all_goals simp at hc
  subst hc
  exact ⟨base, rfl, hb⟩

end heads

theorem StackInv.of_eq {s t : State} (h : StackInv s) (hc : t.ctx = s.ctx) (hb : t.isrBody = s.isrBody)
    (hi : s.inIsr = true → t.iFlag = false) : StackInv t := by
  obtain ⟨hst, -, htick, hbus, hxfer⟩ := h
  have hisr : t.inIsr = s.inIsr := by simp only [State.inIsr, hc]
  rw [← hc] at hst htick hbus hxfer
  rw [← hb] at htick hbus hxfer
  exact ⟨hst, hisr ▸ hi, htick, hbus, hxfer⟩

theorem StackInv.of_base {t : State} (hc : legalBase t.ctx = true) : StackInv t := by
  refine ⟨legalBase_legalStack hc, fun h => ?_, ?_, ?_, ?_⟩
  · rw [State.inIsr, legalBase_no_isr hc] at h
    cases h
  all_goals obtain hc | hc | ⟨i, hc⟩ := (legalBase_iff _).1 hc <;> simp [hc]

theorem StackInv.of_isr {t : State} {c : Ctx} {base : List Ctx} (hc : t.ctx = c :: base) (hi : c.isIsr = true)
    (hb : legalBase base = true) (hf : t.iFlag = false) (htick : c = .isrTick → t.isrBody = [] ∨ t.isrBody = [tickWord])
    (hbus : c = .isrI2c → t.isrBody = [] ∨ ∃ c d, t.isrBody = [encode (.i2cEvent c d)]) : StackInv t := by
  refine ⟨?_, fun _ => hf, by simpa [hc] using htick, by simpa [hc] using hbus, ?_⟩
  · rw [hc, legalStack_iff]
    obtain rfl | rfl | rfl := isIsr_cases hi <;> exact ⟨base, hb, by simp⟩
  · rintro ⟨st, h⟩
    obtain rfl : c = .xferCb st := by simpa [hc] using h
    simp [Ctx.isIsr] at hi

theorem StackInv.of_xfer {t : State} {st : Status} {base : List Ctx} (hc : t.ctx = .xferCb st :: .isrI2c :: base)
    (hb : legalBase base = true) (hf : t.iFlag = false) (hbody : t.isrBody = []) : StackInv t := by
  refine ⟨?_, fun _ => hf, by simp [hc], by simp [hc], fun _ => hbody⟩
  rw [hc, legalStack_iff]
  exact ⟨base, hb, by simp⟩

-- The engine and the halt

/-- What the engine's part speaks of is the same in `s` and `t`, but for contexts above the base of the stack. -/
structure SameEngine (s t : State) : Prop where
  boot : Ctx.boot ∈ t.ctx ↔ Ctx.boot ∈ s.ctx
  task : ∀ i, Ctx.taskCb i ∈ t.ctx ↔ Ctx.taskCb i ∈ s.ctx
  runActive : t.runActive = s.runActive
  phase : t.phase = s.phase
  cursor : t.cursor = s.cursor
  tasksLength : t.tasks.length = s.tasks.length
  nextTicks : t.nextTicks = s.nextTicks

theorem EngineInv.of_same {s t : State} (h : EngineInv s) (e : SameEngine s t) : EngineInv t := by
  refine ⟨?_, ?_, ?_, ?_, ?_⟩
  · rw [e.boot, e.runActive]; exact h.bootBeforeRun
  · simp only [e.task, e.phase, e.cursor, e.tasksLength]; exact h.taskAtCursor
  · simp only [e.task, e.runActive, e.phase]; exact h.handlerRuns
  · rw [e.cursor, e.tasksLength]; exact h.cursorBound
  · rw [e.runActive, e.phase, e.nextTicks]; exact h.ticksSettled

/-- The engine runs, with no task handler above it. -/
theorem EngineInv.of_running {t : State} (hboot : Ctx.boot ∉ t.ctx) (htask : ∀ i, Ctx.taskCb i ∉ t.ctx)
    (hrun : t.runActive = true) (hphase : t.phase ≠ .inHandler) (hcur : t.cursor ≤ t.tasks.length)
    (hticks : t.phase ≠ .scan → t.phase ≠ .passEnd → t.nextTicks = 0#16) : EngineInv t := by
  refine ⟨by simp [hboot, hrun], fun i hi => absurd hi (htask i), fun _ h => absurd h hphase, hcur, ?_⟩
  rintro (h | ⟨hs, -, hp⟩)
  · simp [hrun] at h
  · exact hticks hs hp

theorem SleepInv.of_awake {t : State} (hs : t.sleeping = false) (hh : t.ctx = [.poll] → t.phase ≠ .halted) :
    SleepInv t :=
  ⟨by simp [hs], fun hc hp => absurd hp (hh hc)⟩

theorem SleepInv.not_halted {s : State} (h : SleepInv s) (hs : s.sleeping = false) (hc : s.ctx = [.poll]) :
    s.phase ≠ .halted := by
  intro hp
  simp [h.haltedAsleep hc hp] at hs

theorem SleepInv.awake {s : State} (h : SleepInv s) (hc : s.ctx ≠ [.poll]) : s.sleeping = false := by
  cases hs : s.sleeping
  · rfl
  · exact absurd (h.asleep hs).1 hc

/-- What the execution unit's parts speak of is the same in `s` and `t`, but for `I`. -/
structure SameUnit (s t : State) : Prop where
  ctx : t.ctx = s.ctx
  isrBody : t.isrBody = s.isrBody
  runActive : t.runActive = s.runActive
  phase : t.phase = s.phase
  cursor : t.cursor = s.cursor
  tasksLength : t.tasks.length = s.tasks.length
  nextTicks : t.nextTicks = s.nextTicks
  sleeping : t.sleeping = s.sleeping

theorem SameUnit.engine {s t : State} (e : SameUnit s t) : SameEngine s t :=
  ⟨by rw [e.ctx], fun i => by rw [e.ctx], e.runActive, e.phase, e.cursor, e.tasksLength, e.nextTicks⟩

theorem DriverFrame.sameUnit {s t : State} (h : DriverFrame s t) : SameUnit s t :=
  ⟨h.ctx, h.isrBody, h.runActive, h.phase, h.cursor, by rw [h.tasks], h.nextTicks, h.sleeping⟩

theorem UnitInv.of_same {s t : State} (h : UnitInv s) (e : SameUnit s t) (hi : t.iFlag = s.iFlag) : UnitInv t := by
  obtain ⟨hst, hen, hasleep, hhalted⟩ := h
  refine ⟨hst.of_eq e.ctx e.isrBody (hi ▸ hst.isrDisabled), hen.of_same e.engine, ?_, ?_⟩
  · rw [e.sleeping, e.ctx, e.phase, hi]; exact hasleep
  · rw [e.sleeping, e.ctx, e.phase]; exact hhalted

/-- Awake, the unit may change `I`, outside interrupt context to 1 also (41_critical_section.md R127). -/
theorem UnitInv.of_flag {s t : State} (h : UnitInv s) (e : SameUnit s t) (hs : s.sleeping = false)
    (hi : s.inIsr = true → t.iFlag = false) : UnitInv t := by
  refine ⟨h.stack.of_eq e.ctx e.isrBody hi, h.engine.of_same e.engine, .of_awake (e.sleeping.trans hs) ?_⟩
  rw [e.ctx, e.phase]
  exact h.sleep.not_halted hs

/-- The engine is the current context, awake and not at its halt. -/
theorem UnitInv.of_poll {t : State} (hc : t.ctx = [.poll]) (hs : t.sleeping = false) (hrun : t.runActive = true)
    (hhand : t.phase ≠ .inHandler) (hhalt : t.phase ≠ .halted) (hcur : t.cursor ≤ t.tasks.length)
    (hticks : t.phase ≠ .scan → t.phase ≠ .passEnd → t.nextTicks = 0#16) : UnitInv t :=
  ⟨.of_base (by rw [hc]; rfl), .of_running (by simp [hc]) (by simp [hc]) hrun hhand hcur hticks,
    .of_awake hs fun _ => hhalt⟩

/-- With the engine the current context, it runs and no task handler does. -/
theorem UnitInv.poll_running {s : State} (h : UnitInv s) (hc : s.ctx = [.poll]) :
    s.runActive = true ∧ s.phase ≠ .inHandler := by
  have hrun : s.runActive = true := by
    cases hr : s.runActive
    · simpa [hc] using h.engine.bootBeforeRun.2 hr
    · rfl
  refine ⟨hrun, fun hp => ?_⟩
  obtain ⟨i, hi⟩ := h.engine.handlerRuns hrun hp
  simp [hc] at hi

-- The request ring

theorem RingInv.of_eq {s t : State} (h : RingInv s) (hq : t.queue = s.queue) (hr : t.rp = s.rp)
    (hb : t.busState ≠ .idle → s.busState ≠ .idle ∨ s.active.handler ≠ 0#8) : RingInv t := by
  obtain ⟨hrp, ⟨k, hk⟩, hact⟩ := h
  refine ⟨by rw [hq, hr]; exact hrp, ⟨k, ?_⟩, fun ht => ?_⟩
  · simpa only [State.ringRun, hq, hr] using hk
  · have : t.active = s.active := by simp only [State.active, hq, hr]
    rw [this]
    exact (hb ht).elim hact id

/-- Positions counted from `RP` within the ring's length are distinct slots. -/
theorem ring_slot_inj {rp n j k : Nat} (hj : j < n) (hk : k < n) (h : (rp + j) % n = (rp + k) % n) : j = k := by
  have h : j ≡ k [MOD n] := Nat.ModEq.add_left_cancel' rp h
  rwa [Nat.ModEq, Nat.mod_eq_of_lt hj, Nat.mod_eq_of_lt hk] at h

theorem firstFreeRequest_some {queue : List Request} {rp j : Nat} (h : firstFreeRequest queue rp = some j) :
    ∃ k, k < queue.length ∧ j = (rp + k) % queue.length ∧ (queue.getD j Request.free).handler = 0#8 ∧
      ∀ i, i < k → (queue.getD ((rp + i) % queue.length) Request.free).handler ≠ 0#8 := by
  simp only [firstFreeRequest, List.find?_map, Option.map_eq_some_iff, List.find?_range_eq_some] at h
  obtain ⟨k, ⟨hfree, hk, hocc⟩, rfl⟩ := h
  exact ⟨k, by simpa using hk, rfl, by simpa using hfree, fun i hi => by simpa using hocc i hi⟩

/-- The occupancy of a ring in which the slot `j` has been written. -/
theorem getD_set_handler (queue : List Request) (q : Request) {j : Nat} (hj : j < queue.length) (i : Nat) :
    ((queue.set j q).getD i Request.free).handler =
      if i = j then q.handler else (queue.getD i Request.free).handler := by
  by_cases h : i = j
  · subst h; simp [List.getD, hj]
  · simp [List.getD, List.getElem?_set_ne (Ne.symm h), h]

/-- The slot the scan finds is the one after the run (43_i2c_requests.md R190, R191). -/
theorem ringRun_firstFree {s : State} {k j : Nat} (h : s.ringRun k) (hj : firstFreeRequest s.queue s.rp = some j) :
    k < s.queue.length ∧ j = (s.rp + k) % s.queue.length := by
  obtain ⟨k', hk', rfl, hfree, hocc⟩ := firstFreeRequest_some hj
  obtain ⟨hkn, hrun⟩ := h
  have hge : k ≤ k' := by
    by_contra hlt
    exact (hrun k' hk').2 (by omega) hfree
  have hle : k' ≤ k := by
    by_contra hlt
    have := (hrun k (by omega)).1 (hocc k (by omega))
    omega
  obtain rfl : k = k' := by omega
  exact ⟨hk', rfl⟩

theorem ringRun_append {s : State} {k : Nat} (h : s.ringRun k) (hk : k < s.queue.length) {q : Request}
    (hq : q.handler ≠ 0#8) :
    ({ s with queue := s.queue.set ((s.rp + k) % s.queue.length) q } : State).ringRun (k + 1) := by
  have hlt : (s.rp + k) % s.queue.length < s.queue.length := Nat.mod_lt _ (by omega)
  refine ⟨by simpa using hk, fun j hj => ?_⟩
  simp only [List.length_set] at hj ⊢
  rw [getD_set_handler _ _ hlt]
  split
  · rename_i he
    obtain rfl := ring_slot_inj hj hk he
    simp [hq]
  · rename_i hne
    have hjk : j ≠ k := fun he => hne (by rw [he])
    rw [h.2 j hj]
    omega

/-- Freeing the slot at `RP` and passing it takes the first of the run away (44_i2c_fsm.md R226). -/
theorem ringRun_pop {s : State} {k : Nat} (h : s.ringRun k) (hrp : s.rp < s.queue.length) {q : Request}
    (hq : q.handler = 0#8) :
    ({ s with queue := s.queue.set s.rp q, rp := (s.rp + 1) % s.queue.length } : State).ringRun (k - 1) := by
  obtain ⟨hkn, hrun⟩ := h
  refine ⟨by simp only [List.length_set]; omega, fun j hj => ?_⟩
  simp only [List.length_set] at hj ⊢
  have hslot : ((s.rp + 1) % s.queue.length + j) % s.queue.length = (s.rp + (j + 1)) % s.queue.length := by
    rw [Nat.mod_add_mod]; congr 1; omega
  rw [getD_set_handler _ _ hrp, hslot]
  by_cases hlast : j + 1 = s.queue.length
  · have : (s.rp + (j + 1)) % s.queue.length = s.rp := by
      rw [hlast, Nat.add_mod_right, Nat.mod_eq_of_lt hrp]
    simp only [this, if_true, hq, ne_eq, not_true_eq_false, false_iff]
    omega
  · have hne : (s.rp + (j + 1)) % s.queue.length ≠ s.rp := by
      intro he
      have h0 : (s.rp + 0) % s.queue.length = s.rp := Nat.mod_eq_of_lt hrp
      have := ring_slot_inj (by omega) (by omega) (he.trans h0.symm)
      omega
    rw [if_neg hne, hrun (j + 1) (by omega)]
    omega

theorem ringRun_overwrite {s : State} {k : Nat} (h : s.ringRun k) (hrp : s.rp < s.queue.length)
    (hact : s.active.handler ≠ 0#8) {q : Request} (hq : q.handler ≠ 0#8) :
    ({ s with queue := s.queue.set s.rp q } : State).ringRun k := by
  refine ⟨by simpa using h.1, fun j hj => ?_⟩
  simp only [List.length_set] at hj ⊢
  rw [← h.2 j hj, getD_set_handler _ _ hrp]
  split
  · rename_i he
    rw [he]
    exact iff_of_true hq hact
  · rfl

end Sys2Proof.Machine
end

section
/-! Every kind of state change keeps the invariant, and with them every step to a state without a fault. -/

namespace Sys2Proof.Machine

-- The driver

/-- What the driver's parts speak of is the same in `s` and `t`, but for `answering`. -/
structure SameDriver (s t : State) : Prop where
  queue : t.queue = s.queue
  rp : t.rp = s.rp
  busState : t.busState = s.busState
  instantPend : t.instantPend = s.instantPend
  ctrlWait : t.ctrlWait = s.ctrlWait
  irqI2c : t.irqI2c = s.irqI2c

theorem answering_congr {s t : State} (hc : t.ctx = s.ctx) (hb : t.isrBody = s.isrBody) : t.answering = s.answering := by
  simp only [State.answering, hc, hb]

theorem answering_of_base {s : State} (h : legalBase s.ctx = true) : s.answering = false := by
  obtain hc | hc | ⟨i, hc⟩ := (legalBase_iff _).1 h <;> simp [State.answering, hc]

theorem answering_of_no_isr {s : State} (h : legalStack s.ctx = true) (hi : s.inIsr = false) : s.answering = false :=
  answering_of_base (legalStack_base h hi)

theorem RingInv.of_same {s t : State} (h : RingInv s) (e : SameDriver s t) : RingInv t :=
  h.of_eq e.queue e.rp fun ht => .inl (e.busState ▸ ht)

theorem BusInv.of_eq {s t : State} (h : BusInv s) (hb : t.busState = s.busState) (hp : t.instantPend = s.instantPend)
    (hw : t.ctrlWait = s.ctrlWait) (hi : t.irqI2c = s.irqI2c) (ha : t.answering = s.answering) : BusInv t := by
  obtain ⟨hidle, hone, hans⟩ := h
  refine ⟨?_, ?_, ?_⟩
  · rw [hb, hp, hw, hi, ha]; exact hidle
  · rw [hb, hw, hi, ha]; exact hone
  · rw [hw, hi, ha]; exact hans

theorem BusInv.of_same {s t : State} (h : BusInv s) (e : SameDriver s t) (ha : t.answering = s.answering) : BusInv t :=
  h.of_eq e.busState e.instantPend e.ctrlWait e.irqI2c ha

/-- After a command the controller is waited for, or the driver is idle (44_i2c_fsm.md R245). -/
theorem BusInv.of_commanded {t : State} (hc : Commanded t) (ha : t.answering = false)
    (hi : t.busState = .idle → t.instantPend = false) : BusInv t := by
  refine ⟨fun hb => ⟨hi hb, ?_, hc.irqI2c, ha⟩, fun hb _ => ?_, by simp [ha]⟩
  · simpa [hb] using hc.waits
  · simpa [hc.irqI2c] using hc.waits.2 hb

/-- While an event is answered, neither a command nor an event is outstanding. -/
theorem BusInv.of_answering {t : State} (hb : t.busState ≠ .idle) (ha : t.answering = true) (hw : t.ctrlWait = false)
    (hi : t.irqI2c = false) : BusInv t :=
  ⟨fun h => absurd h hb, by simp [ha], fun _ => ⟨hw, hi⟩⟩

theorem BusInv.answering_busy {s : State} (h : BusInv s) (ha : s.answering = true) : s.busState ≠ .idle := by
  intro hb
  obtain ⟨-, -, -, hn⟩ := h.idleQuiet hb
  simp [ha] at hn

theorem State.Inv.of_same {s t : State} (h : s.Inv) (e : SameUnit s t) (hi : t.iFlag = s.iFlag) (d : SameDriver s t) :
    t.Inv :=
  (h.unit.of_same e hi).inv (h.ringInv.of_same d) (h.bus.of_same d (answering_congr e.ctx e.isrBody))

theorem RingInv.closeTransfer {s : State} (h : RingInv s) (hb : s.busState ≠ .idle) : RingInv s.closeTransfer := by
  unfold State.closeTransfer
  split
  · exact h.of_eq rfl rfl fun _ => .inl hb
  · obtain ⟨hrp, ⟨k, hk⟩, -⟩ := h
    obtain ⟨q, hq⟩ : ∃ q, s.queue[s.rp]? = some q := ⟨_, List.getElem?_eq_getElem hrp⟩
    have hpop := ringRun_pop hk hrp (q := { q with handler := 0#8 }) rfl
    rw [← modify_eq_set (f := fun q => { q with handler := 0#8 }) hq] at hpop
    refine ⟨?_, ⟨k - 1, hpop⟩, fun ht => absurd rfl ht⟩
    simpa using Nat.mod_lt _ (by omega)

theorem closeTransfer_instantPend (s : State) : s.closeTransfer.instantPend = false := by
  unfold State.closeTransfer
  split
  · rfl
  · rename_i h
    simpa using h

/-- After the handler's answer the transfer closes, or goes on for the same request (44_i2c_fsm.md R223, R225, R227). -/
theorem afterHandler_cases (s : State) (st : Status) (r : Bool) :
    s.afterHandler st r = s.closeTransfer ∨
    ((s.afterHandler st r).queue = s.queue ∧ (s.afterHandler st r).rp = s.rp ∧ (s.afterHandler st r).busState ≠ .idle) := by
  have hw : s.writeAnswer r = s.closeTransfer ∨
      ((s.writeAnswer r).queue = s.queue ∧ (s.writeAnswer r).rp = s.rp ∧ (s.writeAnswer r).busState ≠ .idle) := by
    unfold State.writeAnswer
    split
    · exact .inr ⟨rfl, rfl, by simp⟩
    · exact .inl rfl
  have hr : (s.readAnswer r).queue = s.queue ∧ (s.readAnswer r).rp = s.rp ∧ (s.readAnswer r).busState ≠ .idle := by
    unfold State.readAnswer
    split <;> exact ⟨rfl, rfl, by simp⟩
  cases st with
  | transmitReady | byteTransmitted => exact hw
  | receiveReady | byteReceived => exact .inr hr
  | transmitFailed | receiveFailed | nack | lastByteReceived => exact .inl rfl

/-- A poll of the driver outside the bus interrupt's answer (43_i2c_requests.md R200). -/
theorem busPoll_keepsInv {s : State} (h : s.Inv) (ha : s.answering = false) : s.busPoll.Inv := by
  have hf := busPoll_frame s
  have ha' : s.busPoll.answering = false := (answering_congr hf.ctx hf.isrBody).trans ha
  refine (h.unit.of_same hf.sameUnit hf.iFlag).inv ?_ ?_
  · unfold State.busPoll
    split
    · rename_i hstart
      exact h.ringInv.of_eq rfl rfl fun _ => .inr hstart.2
    · exact h.ringInv
  · unfold State.busPoll at ha' ⊢
    split
    · rename_i hstart
      rw [if_pos hstart] at ha'
      refine .of_commanded (startTransfer_commanded s) ha' fun _ => ?_
      exact (h.bus.idleQuiet hstart.1).1
    · exact h.bus

-- Draws, devices and interrupt entry and exit

theorem drawn_keepsInv {s : State} (h : s.Inv) : s.drawn.Inv :=
  h.of_same (by constructor <;> simp) (by simp) (by constructor <;> simp)

theorem withCode_keepsInv {s : State} (h : s.Inv) (p : Program) : (s.withCode p).Inv :=
  h.of_same (by constructor <;> simp) (by simp) (by constructor <;> simp)

theorem timerFires_keepsInv {s : State} (h : s.Inv) : (timerFires s).Inv :=
  h.of_same (by constructor <;> rfl) rfl (by constructor <;> rfl)

theorem otherFires_keepsInv {s : State} (h : s.Inv) : (otherFires s).Inv :=
  h.of_same (by constructor <;> rfl) rfl (by constructor <;> rfl)

/-- A report answers the waited command, so that the driver is not idle and answers no other event. -/
theorem controllerReports_keepsInv {s : State} (h : s.Inv) (ev : BusEvent) (d : Byte) :
    (controllerReports ev d s).Inv := by
  unfold controllerReports
  split
  · rename_i hmay
    have hwait : s.ctrlWait = true := by
      simp only [controllerMay, Bool.and_eq_true] at hmay
      exact hmay.1.1
    have hbusy : s.busState ≠ .idle := fun hb => by simp [(h.bus.idleQuiet hb).2.1] at hwait
    have hans : s.answering = false := by
      cases ha : s.answering
      · rfl
      · simp [(h.bus.answeringQuiet ha).1] at hwait
    refine UnitInv.inv (h.unit.of_same (by constructor <;> rfl) rfl) (h.ringInv.of_eq rfl rfl fun _ => .inl hbusy) ?_
    exact ⟨fun hb => absurd hb hbusy, fun _ _ => by simp, fun ha => absurd (ha.symm.trans hans) (by simp)⟩
  · exact h

theorem interruptEntry_sameEngine (x : IrqSource) (s : State) : SameEngine s (interruptEntry x s) := by
  obtain ⟨c, hi, hc, -⟩ := interruptEntry_ctx x s
  refine ⟨?_, fun i => ?_, by simp, by simp, by simp, by simp, by simp⟩
  · rw [hc, boot_mem_cons (.inl hi)]
  · rw [hc, taskCb_mem_cons (.inl hi)]

theorem interruptEntry_unitInv {s : State} (h : UnitInv s) (hi : s.iFlag = true) (x : IrqSource) :
    UnitInv (interruptEntry x s) := by
  have hbase : legalBase s.ctx = true := by
    refine legalStack_base h.stack.stack ?_
    cases hn : s.inIsr
    · exact hn
    · simp [h.stack.isrDisabled hn] at hi
  obtain ⟨c, hisr, hc, htick, hbus⟩ := interruptEntry_ctx x s
  refine ⟨.of_isr hc hisr hbase (by simp) (fun he => .inr (htick he)) (fun he => .inr ⟨_, _, (hbus he).2⟩),
    h.engine.of_same (interruptEntry_sameEngine x s), .of_awake (by simp) fun hp => ?_⟩
  obtain ⟨rfl, -⟩ : c = .poll ∧ s.ctx = [] := by simpa [hc] using hp
  simp [Ctx.isIsr] at hisr

/-- Entry leaves the driver alone, but for the event that the bus interrupt takes to answer (60_exceptions.md R293). -/
theorem interruptEntry_busInv {s : State} (h : BusInv s) (ha : s.answering = false) {x : IrqSource}
    (hx : s.irq x = true) : BusInv (interruptEntry x s) := by
  cases x with
  | tick => exact h.of_same (by constructor <;> rfl) ha.symm
  | other => exact h.of_same (by constructor <;> rfl) ha.symm
  | i2c =>
    have hirq : s.irqI2c = true := hx
    have hbusy : s.busState ≠ .idle := fun hb => by simp [(h.idleQuiet hb).2.2.1] at hirq
    have hwait : s.ctrlWait = false := by
      have := h.oneOutstanding hbusy ha
      simpa [hirq] using this
    exact .of_answering hbusy rfl hwait rfl

theorem interruptEntry_keepsInv {s : State} (h : s.Inv) (hi : s.iFlag = true) {x : IrqSource} (hx : s.irq x = true) :
    (interruptEntry x s).Inv := by
  have hno : s.inIsr = false := by
    cases hn : s.inIsr
    · rfl
    · simp [h.isrDisabled hn] at hi
  exact (interruptEntry_unitInv h.unit hi x).inv (h.ringInv.of_eq (by simp) (by simp) fun hb => .inl (by simpa using hb))
    (interruptEntry_busInv h.bus (answering_of_no_isr h.stack hno) hx)

theorem interruptExit_engineInv {s : State} (h : UnitInv s) {c : Ctx} {base : List Ctx} (hc : s.ctx = c :: base)
    (hi : c.isIsr = true) (hbase : legalBase base = true) : EngineInv (interruptExit s) := by
  by_cases hwake : base.head? = some .poll ∧ s.phase = .halted
  · obtain rfl := legalStack_poll (legalBase_legalStack hbase) hwake.1
    have hphase : (interruptExit s).phase = .clear := by simp [hc, hwake.2]
    have hrun : s.runActive = true := by
      cases hr : s.runActive
      · have := h.engine.bootBeforeRun.2 hr
        rw [hc, boot_mem_cons (.inl hi)] at this
        simp at this
      · rfl
    refine .of_running (by simp [hc]) (by simp [hc]) hrun (by rw [hphase]; decide) h.engine.cursorBound fun _ _ => ?_
    exact h.engine.ticksSettled (.inr (by simp [hwake.2]))
  · refine h.engine.of_same ⟨?_, fun i => ?_, rfl, ?_, rfl, rfl, rfl⟩
    · rw [interruptExit_ctx, hc, boot_mem_cons (.inl hi), List.tail_cons]
    · rw [interruptExit_ctx, hc, taskCb_mem_cons (.inl hi), List.tail_cons]
    · rw [interruptExit_phase, hc, List.tail_cons, if_neg hwake]

/-- Exit wakes a halted engine under the interrupt, so that none is left halted and awake (45_sleep_gate.md R273). -/
theorem interruptExit_keepsInv {s : State} (h : s.Inv) (hs : s.sleeping = false) {c : Ctx} (hi : c.isIsr = true)
    (hc : s.ctx.head? = some c) (hb : s.isrBody = []) : (interruptExit s).Inv := by
  obtain ⟨base, hc, hbase⟩ := legalStack_isr h.stack hi hc
  have hctx : (interruptExit s).ctx = base := by simp [hc]
  have hans : s.answering = false := by
    obtain rfl | rfl | rfl := isIsr_cases hi <;> simp [State.answering, hc, hb]
  refine UnitInv.inv ⟨.of_base (hctx ▸ hbase), interruptExit_engineInv h.unit hc hi hbase, .of_awake hs fun hp => ?_⟩
    (h.ringInv.of_same (by constructor <;> rfl)) (h.bus.of_same (by constructor <;> rfl) ?_)
  · obtain rfl : base = [.poll] := hctx.symm.trans hp
    rw [interruptExit_phase, hc]
    by_cases hh : s.phase = .halted <;> simp [hh]
  · rw [hans, answering_of_base (hctx ▸ hbase)]

-- The engine's micro-steps

/-- A change of the execution unit below interrupt context that leaves the driver alone. -/
theorem State.Inv.of_bases {s t : State} (h : s.Inv) (hs : legalBase s.ctx = true) (ht : legalBase t.ctx = true)
    (d : SameDriver s t) (hu : UnitInv t) : t.Inv :=
  hu.inv (h.ringInv.of_same d) (h.bus.of_same d ((answering_of_base ht).trans (answering_of_base hs).symm))

section engine
variable {s : State} (h : s.Inv) (hc : s.ctx = [.poll])
include h hc

theorem nextTicks_settled (hp : s.phase ≠ .scan) (hp' : s.phase ≠ .passEnd) : s.nextTicks = 0#16 :=
  h.ticksSettled (.inr ⟨hp, (h.unit.poll_running hc).2, hp'⟩)

variable (hs : s.sleeping = false)
include hs

/-- A micro-step that leaves the driver alone and the engine awake, the current context. -/
theorem State.Inv.of_microStep {t : State} (d : SameDriver s t) (hct : t.ctx = s.ctx) (hst : t.sleeping = s.sleeping)
    (hrt : t.runActive = s.runActive) (hhand : t.phase ≠ .inHandler) (hhalt : t.phase ≠ .halted)
    (hcur : t.cursor ≤ t.tasks.length) (hticks : t.phase ≠ .scan → t.phase ≠ .passEnd → t.nextTicks = 0#16) : t.Inv :=
  h.of_bases (by rw [hc]; rfl) (by rw [hct, hc]; rfl) d
    (.of_poll (hct.trans hc) (hst.trans hs) (hrt.trans (h.unit.poll_running hc).1) hhand hhalt hcur hticks)

theorem engineClear_keepsInv (hp : s.phase = .clear) : (engineClear s).Inv := by
  have hticks := nextTicks_settled h hc (by simp [hp]) (by simp [hp])
  exact h.of_microStep hc hs (by constructor <;> rfl) rfl rfl rfl (by simp [engineClear]) (by simp [engineClear])
    h.cursorBound fun _ _ => hticks

theorem engineDrain_keepsInv (hp : s.phase = .drain) : (engineDrain s).Inv := by
  have hticks := nextTicks_settled h hc (by simp [hp]) (by simp [hp])
  unfold engineDrain
  split
  · exact h.of_microStep hc hs (by constructor <;> rfl) rfl rfl rfl (by simp) (by simp) h.cursorBound
      fun _ _ => hticks
  · exact h.of_microStep hc hs (by constructor <;> rfl) rfl rfl rfl (by simp) (by simp) (Nat.zero_le _) (by simp)

/-- The call of the task handler of the slot at `CURSOR` (42_scheduler.md R163, 10_state.md R50 item 1). -/
theorem callTask_keepsInv (hlt : s.cursor < s.tasks.length) (slot : TaskSlot) (hd : Byte) :
    ({ s with tasks := s.tasks.set s.cursor slot, phase := .inHandler }.callTask s.cursor hd).Inv := by
  obtain ⟨hrun, -⟩ := h.unit.poll_running hc
  have hbase : legalBase [.taskCb s.cursor, .poll] = true := rfl
  refine h.of_bases (by rw [hc]; rfl) (by simpa [hc] using hbase) (by constructor <;> rfl)
    ⟨.of_base (by simpa [hc] using hbase), ⟨by simp [hc, hrun], fun i hi => ?_, fun _ _ => ?_, ?_, by simp [hrun]⟩,
      .of_awake hs (by simp)⟩
  · obtain rfl : i = s.cursor := by simpa [hc] using hi
    exact ⟨rfl, rfl, by simpa using hlt⟩
  · exact ⟨s.cursor, by simp⟩
  · simpa using h.cursorBound

theorem engineScan_keepsInv (hp : s.phase = .scan) : (engineScan s).Inv := by
  unfold engineScan
  split
  · exact h.of_microStep hc hs (by constructor <;> rfl) rfl rfl rfl (by simp) (by simp) h.cursorBound (by simp)
  rename_i slot hslot
  have hlt : s.cursor < s.tasks.length := (List.getElem?_eq_some_iff.1 hslot).1
  split
  · exact h.of_microStep hc hs (by constructor <;> rfl) rfl rfl rfl (by simp [hp]) (by simp [hp]) hlt (by simp [hp])
  split
  · exact callTask_keepsInv h hc hs hlt _ _
  · exact h.of_microStep hc hs (by constructor <;> rfl) rfl rfl rfl (by simp [hp]) (by simp [hp])
      (by simpa using hlt) (by simp [hp])

theorem enginePassEnd_keepsInv : (enginePassEnd s).Inv := by
  unfold enginePassEnd
  split
  · rename_i hticks
    exact h.of_microStep hc hs (by constructor <;> rfl) rfl rfl rfl (by simp) (by simp) h.cursorBound
      fun _ _ => hticks
  · exact h.of_microStep hc hs (by constructor <;> rfl) rfl rfl rfl (by simp) (by simp) (Nat.zero_le _) (by simp)

theorem engineBusPoll_keepsInv (hp : s.phase = .busPoll) : (engineBusPoll s).Inv := by
  have hf := busPoll_frame s
  have hpoll := busPoll_keepsInv h (answering_of_base (by rw [hc]; rfl))
  exact hpoll.of_microStep (hf.ctx.trans hc) (hf.sleeping.trans hs) (by constructor <;> rfl) rfl rfl rfl
    (by simp [engineBusPoll]) (by simp [engineBusPoll]) hpoll.cursorBound
    fun _ _ => hf.nextTicks.trans (nextTicks_settled h hc (by simp [hp]) (by simp [hp]))

/-- The engine halts asleep with interrupts enabled, or goes on (45_sleep_gate.md R272). -/
theorem engineSleepCheck_keepsInv (hp : s.phase = .sleepCheck) (gate : Bool) : (engineSleepCheck gate s).Inv := by
  have hticks := nextTicks_settled h hc (by simp [hp]) (by simp [hp])
  have hbase : legalBase s.ctx = true := by rw [hc]; rfl
  unfold engineSleepCheck
  dsimp only
  split
  · exact h.of_bases hbase hbase (by constructor <;> rfl)
      ⟨.of_base hbase, .of_running (by simp [hc]) (by simp [hc]) (h.unit.poll_running hc).1 (by simp) h.cursorBound
        fun _ _ => hticks, ⟨fun _ => ⟨hc, rfl, rfl⟩, fun _ _ => rfl⟩⟩
  · exact h.of_microStep hc hs (by constructor <;> rfl) rfl rfl rfl (by simp) (by simp) h.cursorBound fun _ _ => hticks

end engine

theorem engineStep_keepsInv {s : State} (h : s.Inv) (hc : s.ctx.head? = some .poll) (hs : s.sleeping = false)
    (gate : Bool) : (engineStep gate s).Inv := by
  have hc : s.ctx = [.poll] := legalStack_poll h.stack hc
  unfold engineStep
  split
  · split
    · exact engineClear_keepsInv h hc hs ‹_›
    · exact engineDrain_keepsInv h hc hs ‹_›
    · exact engineScan_keepsInv h hc hs ‹_›
    · exact h
    · exact enginePassEnd_keepsInv h hc hs
    · exact engineBusPoll_keepsInv h hc hs ‹_›
    · exact engineSleepCheck_keepsInv h hc hs ‹_› gate
    · exact h
  · exact h

/-- The returning handler was that of the slot at `CURSOR`, so the next slot is within the table or just past it. -/
theorem taskReturn_keepsInv {s : State} (h : s.Inv) {i : Nat} {rest : List Ctx} (hc : s.ctx = .taskCb i :: rest)
    (hs : s.sleeping = false) (r : Ticks) : (taskReturn i r s).Inv := by
  have hc : s.ctx = [.taskCb i, .poll] := legalStack_task h.stack (by rw [hc]; rfl)
  obtain ⟨-, rfl, hlt⟩ := h.taskAtCursor i (by simp [hc])
  have hrun : s.runActive = true := by
    cases hr : s.runActive
    · simpa [hc] using h.bootBeforeRun.2 hr
    · rfl
  have hctx : (taskReturn s.cursor r s).ctx = [.poll] := by simp [taskReturn, hc]
  exact h.of_bases (by rw [hc]; rfl) (by rw [hctx]; rfl) (by constructor <;> rfl)
    (.of_poll hctx hs hrun (by simp [taskReturn]) (by simp [taskReturn]) (by simpa [taskReturn] using hlt)
      (by simp [taskReturn]))

-- The operations outside the bus interrupt's own

theorem raise_keepsInv {s : State} (h : s.Inv) (c : FaultCode) : (s.raise c).Inv :=
  h.of_same (by constructor <;> rfl) rfl (by constructor <;> rfl)

theorem returns_keepsInv {s : State} (h : s.Inv) (r : Result) : (s.returns r).Inv :=
  h.of_same (by constructor <;> rfl) rfl (by constructor <;> rfl)

/-- An operation that writes `I` only. -/
theorem State.Inv.of_flag {s t : State} (h : s.Inv) (hs : s.sleeping = false) (e : SameUnit s t)
    (d : SameDriver s t) (hi : s.inIsr = true → t.iFlag = false) : t.Inv :=
  (h.unit.of_flag e hs hi).inv (h.ringInv.of_same d) (h.bus.of_same d (answering_congr e.ctx e.isrBody))

theorem boot_base {s : State} (h : s.Inv) (hc : InCtx .boot s) : legalBase s.ctx = true := by
  rw [legalStack_boot h.stack hc]; rfl

theorem task_base {s : State} (h : s.Inv) (hc : InTask s) : legalBase s.ctx = true := by
  obtain ⟨i, hc⟩ := hc
  rw [legalStack_task h.stack hc]; rfl

/-- `CS_EXIT 1` is not issued in interrupt context (41_critical_section.md R123, R127). -/
theorem effectCsExit_keepsInv {s : State} (h : s.Inv) (hs : s.sleeping = false) {t : Bool}
    (hm : mayIssue (.csExit t) s = true) : (effectCsExit t s).Inv := by
  refine h.of_flag hs (by constructor <;> rfl) (by constructor <;> rfl) fun hi => ?_
  obtain hc | hc | ⟨rfl, -⟩ := (mayIssue_csExit s t).1 hm
  · exact absurd (legalBase_no_isr (boot_base h hc)) (by simpa [State.inIsr] using hi)
  · exact absurd (legalBase_no_isr (task_base h hc)) (by simpa [State.inIsr] using hi)
  · rfl

theorem effectRun_keepsInv {s : State} (h : s.Inv) (hs : s.sleeping = false) (hc : InCtx .boot s) :
    (effectRun s).Inv := by
  have hrun : s.runActive = false := h.bootBeforeRun.1 (List.mem_of_mem_head? hc)
  exact h.of_bases (boot_base h hc) rfl (by constructor <;> rfl)
    (.of_poll rfl hs rfl (by simp [effectRun]) (by simp [effectRun]) h.cursorBound
      fun _ _ => h.ticksSettled (.inl hrun))

theorem effectSchedTask_keepsInv {s : State} (h : s.Inv) (hd : Byte) (delay : Ticks) :
    (effectSchedTask hd delay s).Inv := by
  unfold effectSchedTask
  split
  · exact raise_keepsInv h _
  split
  · exact raise_keepsInv h _
  split
  · exact h.of_same ⟨rfl, rfl, rfl, rfl, rfl, List.length_set, rfl, rfl⟩ rfl (by constructor <;> rfl)
  · exact returns_keepsInv h _

theorem effectUnschedTask_keepsInv {s : State} (h : s.Inv) (id : Byte) : (effectUnschedTask id s).Inv := by
  unfold effectUnschedTask
  split
  · exact raise_keepsInv h _
  · exact h.of_same ⟨rfl, rfl, rfl, rfl, rfl, List.length_modify .., rfl, rfl⟩ rfl (by constructor <;> rfl)

/-- A request written into the ring keeps the active slot occupied. -/
theorem RingInv.of_set {s : State} (h : RingInv s) {j k : Nat} {q : Request} (hj : j < s.queue.length)
    (hq : q.handler ≠ 0#8) (hk : ({ s with queue := s.queue.set j q } : State).ringRun k) :
    RingInv { s with queue := s.queue.set j q } := by
  refine ⟨by simpa using h.rpBound, ⟨k, hk⟩, fun hb => ?_⟩
  simp only [State.active]
  rw [getD_set_handler _ _ hj]
  split
  · exact hq
  · exact h.activeOccupied hb

theorem effectI2cReq_keepsInv {s : State} (h : s.Inv) (addr : SlaveAddr) (rw : Bool) (hd : Byte) :
    (effectI2cReq addr rw hd s).Inv := by
  unfold effectI2cReq
  split
  · exact raise_keepsInv h _
  rename_i hne
  split
  · rename_i j hj
    obtain ⟨k, hk⟩ := h.ring
    obtain ⟨hlt, rfl⟩ := ringRun_firstFree hk hj
    have hring := h.ringInv.of_set (q := ⟨addr, !rw, hd⟩) (Nat.mod_lt _ (by omega)) hne (ringRun_append hk hlt hne)
    exact UnitInv.inv (h.unit.of_same (by constructor <;> rfl) rfl) (hring.of_eq rfl rfl .inl)
      (h.bus.of_eq rfl rfl rfl rfl rfl)
  · exact returns_keepsInv h _

/-- `I2C_REQI` overwrites the slot of the transfer whose handler runs, which is occupied (43_i2c_requests.md R193). -/
theorem effectI2cReqi_keepsInv {s : State} (h : s.Inv) (hc : InXfer s) (addr : SlaveAddr) (rw : Bool) (hd : Byte) :
    (effectI2cReqi addr rw hd s).Inv := by
  unfold effectI2cReqi
  split
  · exact raise_keepsInv h _
  rename_i hne
  obtain ⟨st, hc⟩ := hc
  obtain ⟨base, hc, -⟩ := legalStack_xfer h.stack hc
  have hans : s.answering = true := by simp [State.answering, hc]
  have hbusy := h.bus.answering_busy hans
  obtain ⟨hwait, hirq⟩ := h.answeringQuiet hans
  obtain ⟨k, hk⟩ := h.ring
  have hring := h.ringInv.of_set h.rpBound hne (q := ⟨addr, !rw, hd⟩)
    (ringRun_overwrite hk h.rpBound (h.activeOccupied hbusy) hne)
  exact UnitInv.inv (h.unit.of_same (by constructor <;> rfl) rfl) (hring.of_eq rfl rfl .inl)
    (.of_answering hbusy hans hwait hirq)

theorem effectI2cPoll_keepsInv {s : State} (h : s.Inv) (hm : mayIssue .i2cPoll s = true) : (effectI2cPoll s).Inv := by
  have hbase : legalBase s.ctx = true := by
    obtain hc | hc | ⟨hc, -⟩ := (mayIssue_i2cPoll s).1 hm
    · exact boot_base h hc
    · exact task_base h hc
    · rw [legalStack_poll h.stack hc]; rfl
  exact returns_keepsInv (busPoll_keepsInv h (answering_of_base hbase)) _

/-- The operations of the programs and of the tick interrupt's and the other device's bodies. -/
theorem effectOf_keepsInv {i : Instr} {s : State} (h : s.Inv) (hs : s.sleeping = false) (hpoll : ¬ InCtx .poll s)
    (hbus : ¬ InCtx .isrI2c s) (hm : mayIssue i s = true) : (effectOf i s).Inv := by
  cases i with
  | csEnter => exact h.of_flag hs (by constructor <;> rfl) (by constructor <;> rfl) fun _ => rfl
  | csExit t => exact effectCsExit_keepsInv h hs hm
  | wait => exact absurd ((mayIssue_wait s).1 hm).1 hpoll
  | run => exact effectRun_keepsInv h hs ((mayIssue_run s).1 hm)
  | schedTask hd delay => exact effectSchedTask_keepsInv h hd delay
  | unschedTask id => exact effectUnschedTask_keepsInv h id
  | schedPoll | tick | i2cNack | i2cTx _ => exact h.of_same (by constructor <;> rfl) rfl (by constructor <;> rfl)
  | i2cReq addr rw hd => exact effectI2cReq_keepsInv h addr rw hd
  | i2cReqi addr rw hd => exact effectI2cReqi_keepsInv h ((mayIssue_i2cReqi s addr rw hd).1 hm) addr rw hd
  | i2cPoll => exact effectI2cPoll_keepsInv h hm
  | i2cEvent code data => exact absurd ((mayIssue_i2cEvent s code data).1 hm) hbus

theorem exec_keepsInv {i : Instr} {s t : State} (h : s.Inv) (hs : s.sleeping = false) (hpoll : ¬ InCtx .poll s)
    (hbus : ¬ InCtx .isrI2c s) (hx : exec i s = .next t) : t.Inv := by
  cases hm : mayIssue i s
  · rw [exec_denied hm] at hx
    cases hx
    exact raise_keepsInv h _
  · rw [exec_allowed hm] at hx
    cases hx
    exact effectOf_keepsInv h hs hpoll hbus hm

-- The answer to an event

/-- The bus interrupt is about to answer an event itself, with its word issued and no handler running: the state between
the event's word, or the handler's return, and the command. -/
structure EventTaken (s : State) : Prop where
  unit : UnitInv s
  ring : RingInv s
  ctx : s.ctx.head? = some .isrI2c
  isrBody : s.isrBody = []
  busy : s.busState ≠ .idle
  ctrlWait : s.ctrlWait = false
  irqI2c : s.irqI2c = false

theorem EventTaken.of_same {s t : State} (h : EventTaken s) (e : SameUnit s t) (hi : t.iFlag = s.iFlag)
    (d : SameDriver s t) : EventTaken t :=
  ⟨h.unit.of_same e hi, h.ring.of_same d, e.ctx ▸ h.ctx, e.isrBody.trans h.isrBody, d.busState ▸ h.busy,
    d.ctrlWait.trans h.ctrlWait, d.irqI2c.trans h.irqI2c⟩

/-- The event answered by a command. -/
theorem EventTaken.answered {s t : State} (h : EventTaken s) (hf : DriverFrame s t) (hc : Commanded t) (hr : RingInv t)
    (hi : t.busState = .idle → t.instantPend = false) : t.Inv := by
  have hans : s.answering = false := by
    obtain ⟨base, hctx, -⟩ := legalStack_isr h.unit.stack.stack rfl h.ctx
    simp [State.answering, hctx, h.isrBody]
  exact (h.unit.of_same hf.sameUnit hf.iFlag).inv hr
    (.of_commanded hc ((answering_congr hf.ctx hf.isrBody).trans hans) hi)

theorem EventTaken.closeTransfer {s : State} (h : EventTaken s) : s.closeTransfer.Inv :=
  h.answered (closeTransfer_frame s) (closeTransfer_commanded s) (h.ring.closeTransfer h.busy)
    fun _ => closeTransfer_instantPend s

/-- The event answered by a call of the handler (44_i2c_fsm.md R224). -/
theorem EventTaken.deliver {s : State} (h : EventTaken s) (st : Status) (d : Byte) : (s.deliver st d).Inv := by
  obtain ⟨base, hctx, hbase⟩ := legalStack_isr h.unit.stack.stack rfl h.ctx
  have hflag : s.iFlag = false := h.unit.stack.isrDisabled (by simp [State.inIsr, hctx, Ctx.isIsr])
  have hsleep := h.unit.sleep.awake (by simp [hctx])
  refine UnitInv.inv ⟨.of_xfer (st := st) (by simp [hctx]) hbase hflag h.isrBody, h.unit.engine.of_same ?_,
      .of_awake hsleep (by simp [hctx])⟩
    (h.ring.of_eq rfl rfl fun _ => .inl h.busy) (.of_answering h.busy rfl h.ctrlWait h.irqI2c)
  exact ⟨boot_mem_cons (.inr ⟨st, rfl⟩) _, taskCb_mem_cons (.inr ⟨st, rfl⟩) _, rfl, rfl, rfl, rfl, rfl⟩

theorem EventTaken.busRow {s : State} (h : EventTaken s) (ev : BusEvent) (b : Byte) : (s.busRow ev b).Inv := by
  obtain ⟨hb, -⟩ | ⟨-, next, hn, he⟩ | ⟨-, he⟩ | ⟨-, st, d, he⟩ | ⟨-, st, d, he⟩ := busRow_cases s ev b
  · exact absurd hb h.busy
  all_goals rw [he]
  · exact h.answered (sendAddress_frame s next) (sendAddress_gave s hn).commanded
      (h.ring.of_eq rfl rfl fun _ => .inl h.busy) fun hi => absurd hi hn
  · exact h.closeTransfer
  · exact h.deliver st d
  · exact (h.of_same (by constructor <;> rfl) rfl (by constructor <;> rfl) : EventTaken { s with txPend := false }).deliver
      st d

theorem EventTaken.effectI2cEvent {s : State} (h : EventTaken s) (code data : Byte) :
    (effectI2cEvent code data s).Inv := by
  unfold Machine.effectI2cEvent
  rw [if_neg h.busy]
  have h' : EventTaken { s with pollPending := true } := h.of_same (by constructor <;> rfl) rfl (by constructor <;> rfl)
  exact returns_keepsInv (h'.busRow _ _) _

theorem EventTaken.afterHandler {s : State} (h : EventTaken s) (st : Status) (r : Bool) : (s.afterHandler st r).Inv := by
  obtain he | ⟨hq, hrp, hb⟩ := afterHandler_cases s st r
  · rw [he]
    exact h.closeTransfer
  · exact h.answered (afterHandler_frame s st r) (afterHandler_commanded s st r)
      (h.ring.of_eq hq hrp fun _ => .inl h.busy) fun hi => absurd hi hb

/-- A transfer handler returns to the bus interrupt that called it. -/
theorem eventTaken_pop {s : State} (h : s.Inv) {st : Status} (hc : s.ctx.head? = some (.xferCb st)) :
    EventTaken s.pop := by
  obtain ⟨base, hctx, hbase⟩ := legalStack_xfer h.stack hc
  have hbody := h.handlerBody ⟨st, hc⟩
  have hans : s.answering = true := by simp [State.answering, hctx]
  obtain ⟨hwait, hirq⟩ := h.answeringQuiet hans
  have hpop : s.pop.ctx = .isrI2c :: base := by simp [hctx]
  have hflag : s.iFlag = false := h.isrDisabled (by simp [State.inIsr, hctx, Ctx.isIsr])
  have hsleep := h.unit.sleep.awake (by simp [hctx])
  refine ⟨⟨.of_isr hpop rfl hbase hflag (by simp) fun _ => .inl hbody, h.unit.engine.of_same ?_,
      .of_awake hsleep (by simp [hctx])⟩,
    h.ringInv.of_eq rfl rfl .inl, by rw [hpop]; rfl, hbody, h.bus.answering_busy hans, hwait, hirq⟩
  refine ⟨?_, fun i => ?_, rfl, rfl, rfl, rfl, rfl⟩
  · rw [hpop, hctx, boot_mem_cons (.inr ⟨st, rfl⟩)]
  · rw [hpop, hctx, taskCb_mem_cons (.inr ⟨st, rfl⟩)]

-- The steps

/-- The next word of the body of the tick interrupt or of another device's is issued (60_exceptions.md R294). -/
theorem issueBody_keepsInv {s : State} (h : s.Inv) {c : Ctx} (hi : c.isIsr = true) (hc : s.ctx.head? = some c)
    (hn : c ≠ .isrI2c) {w : Word} {ws : List Word} (hb : s.isrBody = w :: ws) :
    ({ s with isrBody := ws } : State).Inv := by
  obtain ⟨base, hctx, hbase⟩ := legalStack_isr h.stack hi hc
  have hflag : s.iFlag = false := h.isrDisabled (by simp [State.inIsr, hctx, hi])
  have hsleep := h.unit.sleep.awake (by
    intro hp
    obtain rfl : c = .poll := by simpa [hp] using hc.symm
    cases hi)
  have htick : c = .isrTick → ws = [] ∨ ws = [tickWord] := by
    rintro rfl
    have := h.tickBody hc
    simp_all
  have hans : ∀ ws, ({ s with isrBody := ws } : State).answering = false := by
    intro ws
    obtain rfl | rfl | rfl := isIsr_cases hi
    · simp [State.answering, hctx]
    · exact absurd rfl hn
    · simp [State.answering, hctx]
  refine UnitInv.inv ⟨.of_isr hctx hi hbase hflag htick fun he => absurd he hn,
      h.unit.engine.of_same ⟨Iff.rfl, fun _ => Iff.rfl, rfl, rfl, rfl, rfl, rfl⟩, .of_awake hsleep ?_⟩
    (h.ringInv.of_same (by constructor <;> rfl)) (h.bus.of_same (by constructor <;> rfl) ?_)
  · exact h.unit.sleep.not_halted hsleep
  · exact (hans ws).trans (hans s.isrBody).symm

/-- The one word of the bus interrupt's body is issued. -/
theorem eventTaken_issue {s : State} (h : s.Inv) (hc : s.ctx.head? = some .isrI2c) {w : Word} {ws : List Word}
    (hb : s.isrBody = w :: ws) : EventTaken { s with isrBody := ws } := by
  obtain ⟨base, hctx, hbase⟩ := legalStack_isr h.stack rfl hc
  have hws : ws = [] := by
    obtain he | ⟨code, data, he⟩ := h.busBody hc <;> simp_all
  have hans : s.answering = true := by simp [State.answering, hctx, hb]
  obtain ⟨hwait, hirq⟩ := h.answeringQuiet hans
  have hflag : s.iFlag = false := h.isrDisabled (by simp [State.inIsr, hctx, Ctx.isIsr])
  have hsleep := h.unit.sleep.awake (by simp [hctx])
  exact ⟨⟨.of_isr hctx rfl hbase hflag (by simp) fun _ => .inl hws,
      h.unit.engine.of_same ⟨Iff.rfl, fun _ => Iff.rfl, rfl, rfl, rfl, rfl, rfl⟩,
      .of_awake hsleep (h.unit.sleep.not_halted hsleep)⟩,
    h.ringInv.of_same (by constructor <;> rfl), hc, hws, h.bus.answering_busy hans, hwait, hirq⟩

theorem raise_fault_ne_zero (s : State) (c : FaultCode) : (s.raise c).fault ≠ 0#8 := by
  rw [State.raise_fault]
  split
  · cases c <;> decide
  · assumption

/-- The bus interrupt may issue nothing but `I2C_EVENT` (60_exceptions.md R285). -/
theorem mayIssue_in_isrI2c {i : Instr} {s : State} (hc : InCtx .isrI2c s) (hm : mayIssue i s = true) :
    ∃ code data, i = .i2cEvent code data := by
  obtain ⟨rest, hctx⟩ : ∃ rest, s.ctx = .isrI2c :: rest := List.head?_eq_some_iff.1 hc
  unfold mayIssue at hm
  rw [hctx] at hm
  cases i with
  | i2cEvent code data => exact ⟨code, data, rfl⟩
  | _ => cases hm

/-- The word the bus interrupt issues answers its event, or faults. -/
theorem EventTaken.exec {s t : State} (h : EventTaken s) {i : Instr} (hx : exec i s = .next t) (hf : t.fault = 0#8) :
    t.Inv := by
  cases hm : mayIssue i s
  · rw [exec_denied hm] at hx
    cases hx
    exact absurd hf (raise_fault_ne_zero _ _)
  · rw [exec_allowed hm] at hx
    cases hx
    obtain ⟨code, data, rfl⟩ := mayIssue_in_isrI2c h.ctx hm
    exact h.effectI2cEvent code data

theorem Decodes.exec_keepsInv {s s1 t : State} {w : Word} {i : Instr} (hd : Decodes s w s1) (h : s.Inv)
    (hs : s.sleeping = false) (hx : exec i s1 = .next t) (hf : t.fault = 0#8) : t.Inv := by
  have hdr := drawn_keepsInv h
  cases hd with
  | program d ht p ws hp hw hc =>
    refine Machine.exec_keepsInv (withCode_keepsInv hdr _) (by simpa using hs) ?_ ?_ hx <;>
      simp only [InCtx, State.withCode_ctx, State.drawn_ctx] <;>
      obtain hc | ⟨n, hc⟩ | ⟨st, hc⟩ := hc <;> simp [hc]
  | body ws hb c hi hc =>
    have hc' : s.drawn.ctx.head? = some c := by simpa using hc
    have hb' : s.drawn.isrBody = w :: ws := by simpa using hb
    by_cases hbus : c = .isrI2c
    · subst hbus
      exact (eventTaken_issue hdr hc' hb').exec hx hf
    · refine Machine.exec_keepsInv (issueBody_keepsInv hdr hi hc' hbus hb') (by simpa using hs) ?_ ?_ hx
      · intro hp
        obtain rfl : c = .poll := Option.some.inj (hc'.symm.trans hp)
        cases hi
      · intro hp
        exact hbus (Option.some.inj (hc'.symm.trans hp))

theorem StepCase.keepsInv {s t : State} (hstep : StepCase s t) (h : s.Inv) (hf : t.fault = 0#8) : t.Inv := by
  have hdr := drawn_keepsInv h
  cases hstep with
  | timer => exact timerFires_keepsInv hdr
  | otherDevice => exact otherFires_keepsInv hdr
  | controller ev d => exact controllerReports_keepsInv hdr ev d
  | noStep => exact hdr
  | hang p => exact withCode_keepsInv hdr p
  | entry x hi hx => exact interruptEntry_keepsInv hdr (by simpa using hi) (by simpa using hx)
  | engine d ht hs hc => exact engineStep_keepsInv hdr (by simpa using hc) (by simpa using hs) d.gate
  | badWord s1 w hd hs c => exact absurd hf (raise_fault_ne_zero s1 c)
  | word s1 w hd hs i hw t ht => exact hd.exec_keepsInv h hs ht hf
  | exit c hi hc hb hs =>
    exact interruptExit_keepsInv hdr (by simpa using hs) hi (by simpa using hc) (by simpa using hb)
  | taskReturn i r rest hc hs => exact taskReturn_keepsInv hdr (by simpa using hc) (by simpa using hs) r
  | xferReturn st r rest hc => exact (eventTaken_pop hdr (st := st) (by simp [hc])).afterHandler st r

/-- Settles O58, by the cases of a step: each keeps the invariant's parts, and where the bus interrupt has taken its event
(`EventTaken`) the command or the handler's call that follows in the same step restores the driver's. -/
theorem everyStepKeepsInvariant : Obligations.EveryStepKeepsInvariant := by
  unfold Obligations.EveryStepKeepsInvariant
  intro s t h hstep hf
  exact (step_cases hstep).2.keepsInv h hf

end Sys2Proof.Machine
end

section
/-! The running program and the word it issues (10_state.md R52, 41_critical_section.md R126), by the context it runs in. -/

namespace Sys2Proof.Machine

theorem inCtx_cons {c : Ctx} {s : State} (h : InCtx c s) : ∃ rest, s.ctx = c :: rest := List.head?_eq_some_iff.1 h

section software
variable {s : State}

theorem code_of_boot (h : InCtx .boot s) : s.code = s.bootCode := by
  obtain ⟨rest, hc⟩ := inCtx_cons h
  simp [State.code, hc]

theorem code_of_task {i : Nat} (h : InCtx (.taskCb i) s) : s.code = s.taskCode := by
  obtain ⟨rest, hc⟩ := inCtx_cons h
  simp [State.code, hc]

theorem code_of_xfer {st : Status} (h : InCtx (.xferCb st) s) : s.code = s.xferCode := by
  obtain ⟨rest, hc⟩ := inCtx_cons h
  simp [State.code, hc]

theorem withCode_of_boot (h : InCtx .boot s) (p : Program) : s.withCode p = { s with bootCode := some p } := by
  obtain ⟨rest, hc⟩ := inCtx_cons h
  simp [State.withCode, hc]

theorem withCode_of_task {i : Nat} (h : InCtx (.taskCb i) s) (p : Program) :
    s.withCode p = { s with taskCode := some p } := by
  obtain ⟨rest, hc⟩ := inCtx_cons h
  simp [State.withCode, hc]

theorem withCode_of_xfer {st : Status} (h : InCtx (.xferCb st) s) (p : Program) :
    s.withCode p = { s with xferCode := some p } := by
  obtain ⟨rest, hc⟩ := inCtx_cons h
  simp [State.withCode, hc]

/-- The check of the drawn program is that of the current context. -/
theorem runsCode_iff {c : Ctx} (h : InCtx c s) (d : UnitDraw) (p : Program) :
    RunsCode s d p ↔ s.code = some p ∨ (s.code = none ∧ d.prog = p ∧ refusalOf c s.iFlag p = none) := by
  rw [InCtx] at h
  simp [RunsCode, h]

/-- A task handler's program is admitted if it is paired and does not return with `I = 0` (70_reset_and_hazards.md R331). -/
theorem refusalOf_task_none (n : Nat) (i : Bool) (p : Program) :
    refusalOf (.taskCb n) i p = none ↔ PairedText true i p ∧ ReturnsEnabled i p := by
  rw [refusalOf_task, PairedText, ReturnsEnabled]
  split <;> simp_all

theorem runsCode_boot (h : InCtx .boot s) (d : UnitDraw) (p : Program) : RunsCode s d p ↔ RunsBoot s d p := by
  rw [runsCode_iff h, code_of_boot h, refusalOf_boot]
  simp [RunsBoot, PairedBoot, h]

theorem runsCode_task (h : InTask s) (d : UnitDraw) (p : Program) : RunsCode s d p ↔ RunsTask s d p := by
  obtain ⟨i, hi⟩ := id h
  rw [runsCode_iff hi, code_of_task hi, refusalOf_task_none]
  simp [RunsTask, h]

theorem runsCode_xfer (h : InXfer s) (d : UnitDraw) (p : Program) : RunsCode s d p ↔ RunsXfer s d p := by
  obtain ⟨st, hst⟩ := id h
  rw [runsCode_iff hst, code_of_xfer hst, refusalOf_xfer]
  simp [RunsXfer, PairedText, h]

end software

-- The unit's turn with no interrupt to take

theorem step_of_unitTurn {s : State} {d : UnitDraw} (h : UnitTurn s d) :
    step s = unitStep d s.drawn ∧ ¬ (s.iFlag = true ∧ s.anyIrq = true) ∧ s.sleeping = false := by
  obtain ⟨hf, ht, hs, hi⟩ := h
  refine ⟨by simp [step, hf, ht, turnStep], ?_, hs⟩
  obtain hi | ⟨h1, h2, h3⟩ := hi
  · simp [hi]
  · simp [State.anyIrq, h1, h2, h3]

/-- On its turn a software context makes a step of its program. -/
theorem step_of_software {s : State} {d : UnitDraw} (h : UnitTurn s d) {c : Ctx} (hc : InCtx c s)
    (hp : c = .boot ∨ (∃ i, c = .taskCb i) ∨ ∃ st, c = .xferCb st) : step s = softwareStep c d.prog s.drawn := by
  obtain ⟨hstep, hirq, hsleep⟩ := step_of_unitTurn h
  obtain ⟨rest, hctx⟩ := inCtx_cons hc
  rw [hstep]
  obtain rfl | ⟨i, rfl⟩ | ⟨st, rfl⟩ := hp <;> simp [unitStep, hirq, hsleep, hctx]

/-- On its turn an interrupt context makes a step of its body (60_exceptions.md R294). -/
theorem step_of_isr {s : State} {d : UnitDraw} (h : UnitTurn s d) {c : Ctx} (hc : InCtx c s) (hi : c.isIsr = true) :
    step s = bodyStep s.drawn := by
  obtain ⟨hstep, hirq, hsleep⟩ := step_of_unitTurn h
  obtain ⟨rest, hctx⟩ := inCtx_cons hc
  rw [hstep]
  obtain rfl | rfl | rfl := isIsr_cases hi <;> simp [unitStep, hirq, hsleep, hctx]

/-- The program that `RunsCode` names makes the step, past its check. -/
theorem softwareStep_of_runs {s : State} {d : UnitDraw} {c : Ctx} {p : Program} (hc : InCtx c s)
    (hr : RunsCode s d p) : softwareStep c d.prog s.drawn = programStep p s.drawn := by
  unfold softwareStep
  obtain hp | ⟨hp, rfl, hok⟩ := (runsCode_iff hc d p).1 hr
  · simp [hp]
  · simp [hp, hok]

theorem programStep_word {p : Program} {w : Word} {ws : List Word} (hw : p.words = w :: ws) (s : State) :
    programStep p s = runWord w (s.withCode { p with words := ws }) := by
  simp [programStep, hw]

theorem bodyStep_word {s : State} {w : Word} {ws : List Word} (hb : s.isrBody = w :: ws) :
    bodyStep s = runWord w { s with isrBody := ws } := by
  simp [bodyStep, hb]

theorem runWord_of_decode {w : Word} {i : Instr} (h : decode w = .ok i) (s : State) : runWord w s = exec i s := by
  simp [runWord, h]

/-- A word issued by the running program runs in the state with the program moved past it. -/
theorem step_of_runs {s : State} {d : UnitDraw} (h : UnitTurn s d) {c : Ctx} (hc : InCtx c s)
    (hk : c = .boot ∨ (∃ i, c = .taskCb i) ∨ ∃ st, c = .xferCb st) {p : Program} (hr : RunsCode s d p) {w : Word}
    {ws : List Word} (hw : p.words = w :: ws) : step s = runWord w (s.drawn.withCode { p with words := ws }) := by
  rw [step_of_software h hc hk, softwareStep_of_runs hc hr, programStep_word hw]

/-- The word a step issues runs in the state with the turn and the word consumed. -/
theorem step_of_issues {s s1 : State} {d : UnitDraw} {w : Word} (h : Issues s d w s1) : step s = runWord w s1 := by
  obtain ⟨ht, ⟨p, ws, hw, ⟨hr, rfl⟩ | ⟨hr, rfl⟩ | ⟨hr, rfl⟩⟩ | ⟨ws, hc, hb, rfl⟩⟩ := h
  · have hc : InCtx .boot s := hr.1
    rw [step_of_runs ht hc (.inl rfl) ((runsCode_boot hc d p).2 hr) hw,
      withCode_of_boot (by simpa [InCtx] using hc)]
  · obtain ⟨i, hc⟩ := hr.1
    rw [step_of_runs ht hc (.inr (.inl ⟨i, rfl⟩)) ((runsCode_task hr.1 d p).2 hr) hw,
      withCode_of_task (i := i) (by simpa [InCtx] using hc)]
  · obtain ⟨st, hc⟩ := hr.1
    rw [step_of_runs ht hc (.inr (.inr ⟨st, rfl⟩)) ((runsCode_xfer hr.1 d p).2 hr) hw,
      withCode_of_xfer (st := st) (by simpa [InCtx] using hc)]
  · have hstep : step s = bodyStep s.drawn := by
      obtain hc | hc | hc := hc <;> exact step_of_isr ht hc rfl
    rw [hstep, bodyStep_word (by simpa using hb)]

theorem nextTurn_of_script {s : State} {t : Turn} {rest : List Turn} (h : s.script = t :: rest) :
    s.nextTurn = t ∧ s.drawn = { s with script := rest } := by
  constructor
  · simp [State.nextTurn, h]
  · simp [State.drawn, h]

/-- Settles O29: the word issued runs, and running a word that decodes is `exec`. -/
theorem stepRunsIssuedWord : Obligations.StepRunsIssuedWord := by
  unfold Obligations.StepRunsIssuedWord
  refine ⟨fun s s1 d w i hissue hdecode => ?_, fun s t rest h => nextTurn_of_script h⟩
  rw [step_of_issues hissue, runWord_of_decode hdecode]

end Sys2Proof.Machine
end

section
/-! Who touches the bus (10_state.md R45, R49, 44_i2c_fsm.md R246): a step changes neither `BUS_STATE` nor `WIRE`, or it is
the driver's and puts at most one symbol on the wire. -/

namespace Sys2Proof.Machine

/-- `BUS_STATE` and `WIRE` stay as they are. -/
structure BusQuiet (s t : State) : Prop where
  busState : t.busState = s.busState
  wire : t.wire = s.wire

/-- At most one symbol is appended to `WIRE`. -/
def WireGrows (s t : State) : Prop := ∃ w, t.wire = s.wire ++ w ∧ w.length ≤ 1

theorem BusQuiet.trans {s t u : State} (hst : BusQuiet s t) (htu : BusQuiet t u) : BusQuiet s u :=
  ⟨htu.busState.trans hst.busState, htu.wire.trans hst.wire⟩

theorem BusQuiet.grows {s t : State} (h : BusQuiet s t) : WireGrows s t := ⟨[], by simp [h.wire], by simp⟩

/-- A driver step that follows a change which leaves the bus alone. -/
theorem BusQuiet.grows_trans {s t u : State} (hst : BusQuiet s t) (htu : WireGrows t u) : WireGrows s u := by
  obtain ⟨w, hw, hl⟩ := htu
  exact ⟨w, by rw [hw, hst.wire], hl⟩

/-- The operations that give the controller commands (44_i2c_fsm.md R246). -/
def Instr.drivesBus (i : Instr) : Prop := i = .i2cPoll ∨ ∃ code data, i = .i2cEvent code data

theorem busRow_grows (s : State) (ev : BusEvent) (b : Byte) : WireGrows s (s.busRow ev b) := by
  obtain ⟨-, h⟩ | ⟨-, next, -, h⟩ | ⟨-, h⟩ | ⟨-, st, d, h⟩ | ⟨-, st, d, h⟩ := busRow_cases s ev b <;> rw [h]
  · exact BusQuiet.grows ⟨rfl, rfl⟩
  · exact (sendAddress_frame s next).wire
  · exact (closeTransfer_frame s).wire
  · exact BusQuiet.grows ⟨rfl, rfl⟩
  · exact BusQuiet.grows ⟨rfl, rfl⟩

theorem effectI2cEvent_grows (code data : Byte) (s : State) : WireGrows s (effectI2cEvent code data s) := by
  unfold effectI2cEvent
  split
  · exact BusQuiet.grows ⟨rfl, rfl⟩
  · exact busRow_grows { s with pollPending := true } _ _

theorem effectOf_bus (i : Instr) (s : State) :
    BusQuiet s (effectOf i s) ∨ (Instr.drivesBus i ∧ WireGrows s (effectOf i s)) := by
  cases i with
  | csEnter | csExit _ | wait | run | schedPoll | tick | i2cNack | i2cTx _ => exact .inl ⟨rfl, rfl⟩
  | schedTask h delay =>
    left
    simp only [effectOf, effectSchedTask]
    split
    · exact ⟨rfl, rfl⟩
    split
    · exact ⟨rfl, rfl⟩
    split <;> exact ⟨rfl, rfl⟩
  | unschedTask id =>
    left
    simp only [effectOf, effectUnschedTask]
    split <;> exact ⟨rfl, rfl⟩
  | i2cReq addr rw h =>
    left
    simp only [effectOf, effectI2cReq]
    split
    · exact ⟨rfl, rfl⟩
    split <;> exact ⟨rfl, rfl⟩
  | i2cReqi addr rw h =>
    left
    simp only [effectOf, effectI2cReqi]
    split <;> exact ⟨rfl, rfl⟩
  | i2cPoll => exact .inr ⟨.inl rfl, (busPoll_frame s).wire⟩
  | i2cEvent code data => exact .inr ⟨.inr ⟨code, data, rfl⟩, effectI2cEvent_grows code data s⟩

theorem exec_bus {i : Instr} {s t : State} (h : exec i s = .next t) :
    BusQuiet s t ∨ (mayIssue i s = true ∧ Instr.drivesBus i ∧ WireGrows s t) := by
  cases hm : mayIssue i s
  · rw [exec_denied hm] at h
    cases h
    exact .inl ⟨rfl, rfl⟩
  · rw [exec_allowed hm] at h
    cases h
    exact (effectOf_bus i s).imp_right fun hd => ⟨rfl, hd⟩

theorem drawn_busQuiet (s : State) : BusQuiet s s.drawn := ⟨by simp, by simp⟩

theorem Decodes.busQuiet {s s1 : State} {w : Word} (h : Decodes s w s1) : BusQuiet s s1 := by
  cases h <;> exact ⟨by simp, by simp⟩

theorem Decodes.ctx {s s1 : State} {w : Word} (h : Decodes s w s1) : s1.ctx = s.ctx := by
  cases h <;> simp

theorem controllerReports_busQuiet (ev : BusEvent) (d : Byte) (s : State) : BusQuiet s (controllerReports ev d s) := by
  unfold controllerReports
  split <;> exact ⟨rfl, rfl⟩

/-- The driver's steps: the bus interrupt's and its transfer handler's, the engine's `BUS_POLL`, and an `I2C_POLL` of boot
code or of a task handler. -/
def DriverTurn (s : State) : Prop :=
  InCtx .isrI2c s ∨ InXfer s ∨ (InCtx .poll s ∧ s.phase = .busPoll) ∨
  (∃ d p w ws, s.nextTurn = .execUnit d ∧ (RunsBoot s d p ∨ RunsTask s d p) ∧ p.words = w :: ws ∧
    decode w = .ok .i2cPoll)

theorem engineStep_bus (gate : Bool) (s : State) :
    BusQuiet s (engineStep gate s) ∨ (s.phase = .busPoll ∧ WireGrows s (engineStep gate s)) := by
  unfold engineStep
  split
  · cases hp : s.phase with
    | clear | inHandler | halted => exact .inl ⟨rfl, rfl⟩
    | drain =>
      left
      dsimp only [engineDrain]
      split <;> exact ⟨rfl, rfl⟩
    | scan =>
      left
      dsimp only [engineScan]
      split
      · exact ⟨rfl, rfl⟩
      split
      · exact ⟨rfl, rfl⟩
      split <;> exact ⟨rfl, rfl⟩
    | passEnd =>
      left
      dsimp only [enginePassEnd]
      split <;> exact ⟨rfl, rfl⟩
    | busPoll => exact .inr ⟨rfl, (busPoll_frame s).wire⟩
    | sleepCheck =>
      left
      dsimp only [engineSleepCheck]
      split <;> exact ⟨rfl, rfl⟩
  · exact .inl ⟨rfl, rfl⟩

/-- An issued word whose operation drives the bus is the bus interrupt's event or an `I2C_POLL` of a program: the matrix
refuses both elsewhere (60_exceptions.md R285). -/
theorem Decodes.driverTurn {s s1 : State} {w : Word} {i : Instr} (hd : Decodes s w s1) (hw : decode w = .ok i)
    (hm : mayIssue i s1 = true) (hi : Instr.drivesBus i) : DriverTurn s := by
  obtain rfl | ⟨code, data, rfl⟩ := hi
  · have hc := (mayIssue_i2cPoll s1).1 hm
    simp only [InCtx, InTask, hd.ctx] at hc
    cases hd with
    | program d ht p ws hp hws hk =>
      obtain hboot | htask | ⟨hpoll, -⟩ := hc
      · exact .inr (.inr (.inr ⟨d, p, w, ws, ht, .inl ((runsCode_boot hboot d p).1 hp), hws, hw⟩))
      · exact .inr (.inr (.inr ⟨d, p, w, ws, ht, .inr ((runsCode_task htask d p).1 hp), hws, hw⟩))
      · simp [hpoll] at hk
    | body ws hb c hisr hc' => obtain rfl | rfl | rfl := isIsr_cases hisr <;> simp [hc'] at hc
  · have hc := (mayIssue_i2cEvent s1 code data).1 hm
    rw [InCtx, hd.ctx] at hc
    exact .inl hc

theorem StepCase.bus {s t : State} (h : StepCase s t) : BusQuiet s t ∨ (DriverTurn s ∧ WireGrows s t) := by
  have hdr := drawn_busQuiet s
  cases h with
  | timer | otherDevice => exact .inl (hdr.trans ⟨rfl, rfl⟩)
  | controller ev d => exact .inl (hdr.trans (controllerReports_busQuiet ev d _))
  | noStep => exact .inl hdr
  | hang p => exact .inl ⟨by simp, by simp⟩
  | entry x => exact .inl ⟨by simp, by simp⟩
  | engine d ht hs hc =>
    refine (engineStep_bus d.gate s.drawn).imp hdr.trans fun ⟨hp, hw⟩ => ?_
    exact ⟨.inr (.inr (.inl ⟨hc, by simpa using hp⟩)), hdr.grows_trans hw⟩
  | badWord s1 w hd => exact .inl (hd.busQuiet.trans ⟨rfl, rfl⟩)
  | word s1 w hd hs i hw t ht =>
    refine (exec_bus ht).imp hd.busQuiet.trans fun ⟨hm, hi, hg⟩ => ?_
    exact ⟨hd.driverTurn hw hm hi, hd.busQuiet.grows_trans hg⟩
  | exit | taskReturn => exact .inl (hdr.trans ⟨rfl, rfl⟩)
  | xferReturn st r rest hc =>
    have hpop : BusQuiet s s.drawn.pop := hdr.trans ⟨rfl, rfl⟩
    exact .inr ⟨.inr (.inl ⟨st, by simp [InCtx, hc]⟩), hpop.grows_trans (afterHandler_frame _ st r).wire⟩

/-- Settles O51: a step that is not the driver's leaves `BUS_STATE` alone. -/
theorem busStateChangesOnlyInDriver : Obligations.BusStateChangesOnlyInDriver := by
  unfold Obligations.BusStateChangesOnlyInDriver
  intro s t h hb
  obtain hq | ⟨hd, -⟩ := (step_cases h).2.bus
  · exact absurd hq.busState hb
  · exact hd

/-- Settles O52: a step leaves `WIRE` alone, or is the driver's and gives one command. -/
theorem wireGrowsByAtMostOneSymbol : Obligations.WireGrowsByAtMostOneSymbol := by
  unfold Obligations.WireGrowsByAtMostOneSymbol
  intro s t h
  obtain hq | ⟨-, hw⟩ := (step_cases h).2.bus
  · exact hq.grows
  · exact hw

end Sys2Proof.Machine
end

section
/-! The reset state (10_state.md R54). -/

namespace Sys2Proof.Machine

/-- Settles O60, field by field; the tables hold copies of the free slot. -/
theorem resetLeavesSpecValues : Obligations.ResetLeavesSpecValues := by
  have htasks : ∀ slot ∈ State.reset.tasks, slot = ⟨0#16, 0#8⟩ := fun _ => List.eq_of_mem_replicate
  have hqueue : ∀ q ∈ State.reset.queue, q = ⟨0#7, false, 0#8⟩ := fun _ => List.eq_of_mem_replicate
  unfold Obligations.ResetLeavesSpecValues
  exact ⟨rfl, rfl, rfl, rfl, rfl, rfl, rfl, htasks, rfl, rfl, rfl, rfl, rfl, rfl, rfl, hqueue, rfl, rfl, rfl, rfl, rfl,
    rfl, rfl, rfl, rfl, rfl⟩

end Sys2Proof.Machine
end

section
/-! The operations that change nothing when repeated (20_memory.md R78): the second issue is allowed or refused as the
first was, and an effect or a fault already had is had again without a change. -/

namespace Sys2Proof.Machine

/-- The matrix reads the context stack and, for the engine's operations, `PHASE` (60_exceptions.md R285). -/
theorem mayIssue_congr (i : Instr) {s t : State} (hc : t.ctx = s.ctx) (hp : t.phase = s.phase) :
    mayIssue i t = mayIssue i s := by
  unfold mayIssue
  rw [hc, hp]

/-- A fault is sticky (60_exceptions.md R282). -/
theorem raise_again (s : State) (c : FaultCode) : (s.raise c).raise c = s.raise c := by
  have hf : ((s.raise c).raise c).fault = (s.raise c).fault := by
    rw [State.raise_fault, if_neg (raise_fault_ne_zero s c)]
  exact congrArg (fun f => { s with fault := f }) hf

/-- An operation changes nothing when repeated if its effect moves neither the context nor the engine and changes nothing
when repeated: where the matrix refuses it, the same fault is raised twice. -/
theorem exec_again {i : Instr} {s t : State} (hc : (effectOf i s).ctx = s.ctx) (hp : (effectOf i s).phase = s.phase)
    (he : effectOf i (effectOf i s) = effectOf i s) (h : exec i s = .next t) : exec i t = .next t := by
  cases hm : mayIssue i s
  · rw [exec_denied hm] at h
    cases h
    have hm' : mayIssue i (s.raise .contextViolation) = false := (mayIssue_congr i rfl rfl).trans hm
    rw [exec_denied hm', raise_again]
  · rw [exec_allowed hm] at h
    cases h
    have hm' : mayIssue i (effectOf i s) = true := (mayIssue_congr i hc hp).trans hm
    rw [exec_allowed hm', he]

theorem effectUnschedTask_ctx (id : Byte) (s : State) : (effectUnschedTask id s).ctx = s.ctx := by
  unfold effectUnschedTask
  split <;> rfl

theorem effectUnschedTask_invalid {id : Byte} {s : State} (h : s.tasks.length ≤ id.toNat) :
    effectUnschedTask id s = s.raise .invalidTaskId := if_pos h

theorem effectUnschedTask_valid {id : Byte} {s : State} (h : ¬ s.tasks.length ≤ id.toNat) :
    effectUnschedTask id s =
      { s with tasks := s.tasks.modify id.toNat ({ · with delay := 0#16 }) }.returns .nothing := if_neg h

/-- Freeing a freed slot changes nothing, and an id outside the table faults again (42_scheduler.md R143). -/
theorem effectUnschedTask_again (id : Byte) (s : State) :
    effectUnschedTask id (effectUnschedTask id s) = effectUnschedTask id s := by
  by_cases h : s.tasks.length ≤ id.toNat
  · rw [effectUnschedTask_invalid h, effectUnschedTask_invalid (s := s.raise _) h, raise_again]
  · rw [effectUnschedTask_valid h, effectUnschedTask_valid (by simpa [State.returns] using h)]
    simp only [State.returns, List.modify_modify_eq, Function.comp_def]

theorem busPoll_waiting {s : State} (h : s.busState = .idle ∧ s.active.handler ≠ 0#8) :
    s.busPoll = s.startTransfer := if_pos h

theorem busPoll_not_waiting {s : State} (h : ¬ (s.busState = .idle ∧ s.active.handler ≠ 0#8)) : s.busPoll = s :=
  if_neg h

theorem startTransfer_busy (s : State) : s.startTransfer.busState ≠ .idle :=
  fun h => Cmd.noConfusion ((startTransfer_gave s).idle.1 h)

/-- A second `I2C_POLL` finds the driver busy with the transfer the first one started, or what kept the first one from
starting any (43_i2c_requests.md R200). -/
theorem busPoll_again (s : State) (r : Result) : (s.busPoll.returns r).busPoll = s.busPoll.returns r := by
  by_cases h : s.busState = .idle ∧ s.active.handler ≠ 0#8
  · rw [busPoll_waiting h]
    exact busPoll_not_waiting fun hw => startTransfer_busy s hw.1
  · rw [busPoll_not_waiting h]
    exact busPoll_not_waiting h

theorem effectI2cPoll_again (s : State) : effectI2cPoll (effectI2cPoll s) = effectI2cPoll s := by
  unfold effectI2cPoll
  rw [busPoll_again]
  rfl

/-- Settles O56: each of the four effects changes nothing when repeated, so neither does its operation. -/
theorem repeatingChangesNothing : Obligations.RepeatingChangesNothing := by
  unfold Obligations.RepeatingChangesNothing
  rintro i s t (rfl | rfl | rfl | ⟨id, rfl⟩) h
  · exact exec_again rfl rfl rfl h
  · exact exec_again rfl rfl rfl h
  · exact exec_again (busPoll_frame s).ctx (busPoll_frame s).phase (effectI2cPoll_again s) h
  · exact exec_again (effectUnschedTask_ctx id s) (effectUnschedTask_quietOp id s).phase (effectUnschedTask_again id s) h

end Sys2Proof.Machine
end

section
/-! The operand fields of an operation word (30_encoding.md R91): what a field reads from an operand put in its place,
and which bits of a word a field put back in its place gives. -/

namespace Sys2Proof

/-- A field read at the place of its operand is the operand. -/
@[simp] theorem extract_placed {n : Nat} (x : BitVec n) (k : Nat) (hk : k + n ≤ 32) :
    (x.setWidth 32 <<< k).extractLsb' k n = x := by
  apply BitVec.eq_of_getLsbD_eq
  intro i hi
  simp [hi, show k + i < 32 by omega]

/-- A field read away from an operand's place has none of its bits. -/
@[simp] theorem extract_placed_elsewhere {n : Nat} (x : BitVec n) (k j m : Nat) (h : j + m ≤ k ∨ k + n ≤ j) :
    (x.setWidth 32 <<< k).extractLsb' j m = 0#m := by
  apply BitVec.eq_of_getLsbD_eq
  intro i hi
  by_cases hk : j + i < k
  · simp [hk]
  · simp [BitVec.getLsbD_of_ge x (j + i - k) (by omega)]

/-- The two at the lowest place, where the encoder shifts nothing. -/
@[simp] theorem extract_low {n : Nat} (x : BitVec n) (hn : n ≤ 32) : (x.setWidth 32).extractLsb' 0 n = x := by
  simpa using extract_placed x 0 (by omega)

@[simp] theorem extract_low_elsewhere {n : Nat} (x : BitVec n) (j m : Nat) (h : n ≤ j) :
    (x.setWidth 32).extractLsb' j m = 0#m := by
  simpa using extract_placed_elsewhere x 0 j m (by omega)

/-- A field put back in its place gives the word's bits there. -/
theorem placed_extract (w : Word) (k n : Nat) :
    (w.extractLsb' k n).setWidth 32 <<< k = w &&& (BitVec.allOnes n).setWidth 32 <<< k := by
  apply BitVec.eq_of_getLsbD_eq
  intro i hi
  by_cases hk : i < k
  · simp [hk]
  · simp [hk, hi, show k + (i - k) = i by omega, Bool.and_comm]

theorem low_extract (w : Word) (n : Nat) : (w.extractLsb' 0 n).setWidth 32 = w &&& (BitVec.allOnes n).setWidth 32 := by
  simpa using placed_extract w 0 n

/-- `T` and `RW` are fields of one bit. -/
theorem ofBool_fieldBit (w : Word) : BitVec.ofBool (fieldBit w) = w.extractLsb' 0 1 := by
  ext i hi
  obtain rfl : i = 0 := by omega
  simp [fieldBit]

theorem fieldBit_eq_iff {w : Word} {b : Bool} : fieldBit w = b ↔ w.extractLsb' 0 1 = BitVec.ofBool b := by
  rw [← ofBool_fieldBit]
  exact BitVec.ofBool_eq_iff_eq.symm

end Sys2Proof
end

section
/-! What the decoder answers, by its checks, and the two round trips (30_encoding.md R90 to R93, R101). -/

namespace Sys2Proof

open Laws.EncodedWord (row Statement)

-- The decoder, by its checks

theorem decode_of_unassigned {w : Word} (h : formatOf (opcOf w) = none) : decode w = .error .illegalOpcode := by
  simp [decode, h]

theorem decode_of_reserved {w : Word} {f : Format} (hf : formatOf (opcOf w) = some f)
    (hr : w &&& f.reservedMask ≠ 0#32) : decode w = .error .reservedNonzero := by
  simp [decode, hf, hr]

/-- A word decodes to an operation just when its `OPC` is assigned, no reserved bit of its format is set, and the
operation is the one its fields give. -/
theorem decode_eq_ok_iff {w : Word} {i : Instr} :
    decode w = .ok i ↔ ∃ f, formatOf (opcOf w) = some f ∧ w &&& f.reservedMask = 0#32 ∧ build w = some i := by
  unfold decode
  split
  next hf => simp [hf]
  next f hf =>
    by_cases hr : w &&& f.reservedMask = 0#32
    · cases hb : build w <;> simp [hf, hr]
    · simp [hf, hr]

-- Decoding what was encoded

theorem formatOf_row (i : Instr) : formatOf (row i).1 = some (row i).2 := by cases i <;> rfl

theorem encodedWord_statement : ∀ i : Instr, Statement i
  | .csEnter => Laws.EncodedWord.csEnter
  | .csExit t => Laws.EncodedWord.csExit t
  | .wait => Laws.EncodedWord.wait
  | .run => Laws.EncodedWord.run
  | .schedTask h delay => Laws.EncodedWord.schedTask h delay
  | .unschedTask id => Laws.EncodedWord.unschedTask id
  | .schedPoll => Laws.EncodedWord.schedPoll
  | .tick => Laws.EncodedWord.tick
  | .i2cReq addr rw h => Laws.EncodedWord.i2cReq addr rw h
  | .i2cReqi addr rw h => Laws.EncodedWord.i2cReqi addr rw h
  | .i2cNack => Laws.EncodedWord.i2cNack
  | .i2cTx data => Laws.EncodedWord.i2cTx data
  | .i2cPoll => Laws.EncodedWord.i2cPoll
  | .i2cEvent code data => Laws.EncodedWord.i2cEvent code data

@[simp] theorem fieldBit_encode_csExit (t : Bool) : fieldBit (encode (.csExit t)) = t := by
  simp [fieldBit_eq_iff, encode, BitVec.extractLsb'_or]

@[simp] theorem fields_encode_schedTask (h : Byte) (delay : Ticks) :
    fieldH (encode (.schedTask h delay)) = h ∧ fieldDelay (encode (.schedTask h delay)) = delay := by
  simp [encode, fieldH, fieldDelay, BitVec.extractLsb'_or]

@[simp] theorem fieldLow_encode_unschedTask (id : Byte) : fieldLow (encode (.unschedTask id)) = id := by
  simp [encode, fieldLow, BitVec.extractLsb'_or]

@[simp] theorem fieldLow_encode_i2cTx (data : Byte) : fieldLow (encode (.i2cTx data)) = data := by
  simp [encode, fieldLow, BitVec.extractLsb'_or]

@[simp] theorem fields_encode_i2cEvent (code data : Byte) :
    fieldCode (encode (.i2cEvent code data)) = code ∧ fieldLow (encode (.i2cEvent code data)) = data := by
  simp [encode, fieldCode, fieldLow, BitVec.extractLsb'_or]

/-- The fields of format XR, over any `OPC`. -/
theorem fields_formatXr {w : Word} {opc : BitVec 5} {addr : SlaveAddr} {rw : Bool} {h : Byte}
    (hw : w = opc.setWidth 32 <<< 27 ||| h.setWidth 32 <<< 16 ||| addr.setWidth 32 <<< 1 |||
      (BitVec.ofBool rw).setWidth 32) : fieldAddr w = addr ∧ fieldBit w = rw ∧ fieldH w = h := by
  subst hw
  simp [fieldBit_eq_iff, fieldAddr, fieldH, BitVec.extractLsb'_or]

@[simp] theorem fields_encode_i2cReq (addr : SlaveAddr) (rw : Bool) (h : Byte) :
    fieldAddr (encode (.i2cReq addr rw h)) = addr ∧ fieldBit (encode (.i2cReq addr rw h)) = rw ∧
      fieldH (encode (.i2cReq addr rw h)) = h := fields_formatXr (opc := 0x10) rfl

@[simp] theorem fields_encode_i2cReqi (addr : SlaveAddr) (rw : Bool) (h : Byte) :
    fieldAddr (encode (.i2cReqi addr rw h)) = addr ∧ fieldBit (encode (.i2cReqi addr rw h)) = rw ∧
      fieldH (encode (.i2cReqi addr rw h)) = h := fields_formatXr (opc := 0x11) rfl

/-- The fields of an encoded operation are its operands. -/
theorem build_encode (i : Instr) : build (encode i) = some i := by
  have hopc := (encodedWord_statement i).1
  cases i <;> simp [build, hopc, row]

theorem decode_encode (i : Instr) : decode (encode i) = .ok i := by
  obtain ⟨hopc, hreserved⟩ := encodedWord_statement i
  exact decode_eq_ok_iff.2 ⟨(row i).2, by rw [hopc, formatOf_row], hreserved, build_encode i⟩

/-- Settles O24: an operation's word passes both checks of the decoder, and its fields are the operands. -/
theorem decodeEncodeRoundTrip : Obligations.DecodeEncodeRoundTrip := by
  unfold Obligations.DecodeEncodeRoundTrip
  exact decode_encode

-- Encoding what was decoded

/-- The operand bits of a format: all below `OPC` but the reserved ones (R91). -/
def Format.operandMask (f : Format) : Word := 0x07FFFFFF#32 &&& ~~~f.reservedMask

theorem opcOf_placed (w : Word) : (opcOf w).setWidth 32 <<< 27 = w &&& 0xF8000000#32 := placed_extract w 27 5

/-- A word without a reserved bit is its `OPC` and its operand bits. -/
theorem opc_or_operands {w : Word} {f : Format} (h : w &&& f.reservedMask = 0#32) :
    (opcOf w).setWidth 32 <<< 27 ||| w &&& f.operandMask = w := by
  have hall : 0xF8000000#32 ||| f.operandMask ||| f.reservedMask = BitVec.allOnes 32 := by cases f <;> rfl
  calc (opcOf w).setWidth 32 <<< 27 ||| w &&& f.operandMask
    _ = w &&& (0xF8000000#32 ||| f.operandMask ||| f.reservedMask) := by
      rw [opcOf_placed, BitVec.and_or_distrib_left, BitVec.and_or_distrib_left, h, BitVec.or_zero]
    _ = w := by rw [hall, BitVec.and_allOnes]

-- The fields of each format, put back in their places

theorem operands_n (w : Word) : w &&& Format.n.operandMask = 0#32 := BitVec.and_zero

theorem operands_csx (w : Word) : w &&& Format.csx.operandMask = (BitVec.ofBool (fieldBit w)).setWidth 32 := by
  rw [ofBool_fieldBit, low_extract]
  rfl

theorem operands_st (w : Word) :
    w &&& Format.st.operandMask = (fieldH w).setWidth 32 <<< 16 ||| (fieldDelay w).setWidth 32 := by
  rw [fieldH, fieldDelay, placed_extract, low_extract, ← BitVec.and_or_distrib_left]
  rfl

theorem operands_ut (w : Word) : w &&& Format.ut.operandMask = (fieldLow w).setWidth 32 := (low_extract w 8).symm

theorem operands_byt (w : Word) : w &&& Format.byt.operandMask = (fieldLow w).setWidth 32 := (low_extract w 8).symm

theorem operands_xr (w : Word) :
    w &&& Format.xr.operandMask = (fieldH w).setWidth 32 <<< 16 |||
      ((fieldAddr w).setWidth 32 <<< 1 ||| (BitVec.ofBool (fieldBit w)).setWidth 32) := by
  rw [fieldH, fieldAddr, ofBool_fieldBit, placed_extract, placed_extract, low_extract, ← BitVec.and_or_distrib_left,
    ← BitVec.and_or_distrib_left]
  rfl

theorem operands_ev (w : Word) :
    w &&& Format.ev.operandMask = (fieldCode w).setWidth 32 <<< 8 ||| (fieldLow w).setWidth 32 := by
  rw [fieldCode, fieldLow, placed_extract, low_extract, ← BitVec.and_or_distrib_left]
  rfl

theorem eq_ofNat_of_toNat {n k : Nat} {x : BitVec n} (h : x.toNat = k) : x = BitVec.ofNat n k := by
  rw [← h, BitVec.ofNat_toNat, BitVec.setWidth_eq]

/-- The operation that a word's fields give has the word's `OPC` and operand bits: row by row of the operation map. -/
theorem encode_of_build {w : Word} {i : Instr} {f : Format} (hf : formatOf (opcOf w) = some f) (h : build w = some i) :
    encode i = (opcOf w).setWidth 32 <<< 27 ||| w &&& f.operandMask := by
  unfold build at h
  split at h <;> cases h
  all_goals
    have hopc := eq_ofNat_of_toNat ‹(opcOf w).toNat = _›
    rw [hopc] at hf ⊢
    cases hf
    simp [encode, BitVec.or_assoc, operands_n, operands_csx, operands_st, operands_ut, operands_xr, operands_byt,
      operands_ev]

/-- Settles O25: the word and the operation's word have the same `OPC` and operand bits, and no reserved bit. -/
theorem encodeDecodeRoundTrip : Obligations.EncodeDecodeRoundTrip := by
  unfold Obligations.EncodeDecodeRoundTrip
  intro w i h
  obtain ⟨f, hf, hr, hb⟩ := decode_eq_ok_iff.1 h
  rw [encode_of_build hf hb, opc_or_operands hr]

/-- Settles O27: each word is the encoding of the operation it stands for. -/
theorem writtenWordsDecode : Obligations.WrittenWordsDecode := by
  unfold Obligations.WrittenWordsDecode
  exact ⟨decode_encode (.schedTask 1#8 3#16), decode_encode (.i2cReq 0x68#7 false 1#8),
    decode_encode (.i2cReqi 0x68#7 true 2#8), decode_encode (.i2cTx 0#8), decode_encode (.i2cEvent 0x18#8 0#8),
    decode_encode (.i2cEvent 0x58#8 0x34#8), decode_encode (.csExit true)⟩

end Sys2Proof
end

section
/-! Words that decode to no operation (30_encoding.md R101, checks 1 and 2): they fault in the state they are issued in,
whatever its context. -/

namespace Sys2Proof.Machine

theorem opcOf_toNat (w : Word) : (opcOf w).toNat = w.toNat / 2 ^ 27 := by
  have := w.isLt
  simp [opcOf, Nat.shiftRight_eq_div_pow]
  omega

/-- The table of reserved bits holds each assigned `OPC` with the mask of its format. -/
theorem mem_reservedBits_of_formatOf :
    ∀ opc : BitVec 5, ∀ f ∈ formatOf opc, (opc.toNat, f.reservedMask) ∈ reservedBits := by decide

/-- And nothing else. -/
theorem formatOf_of_mem_reservedBits :
    ∀ r ∈ reservedBits, (formatOf (BitVec.ofNat 5 r.1)).map Format.reservedMask = some r.2 := by decide

theorem mem_reservedBits_iff {opc : BitVec 5} {m : Word} :
    (opc.toNat, m) ∈ reservedBits ↔ ∃ f, formatOf opc = some f ∧ f.reservedMask = m := by
  constructor
  · intro h
    simpa using formatOf_of_mem_reservedBits _ h
  · rintro ⟨f, hf, rfl⟩
    exact mem_reservedBits_of_formatOf opc f hf

theorem raise_of_unfaulted {s : State} (h : s.fault = 0#8) (c : FaultCode) :
    s.raise c = { s with fault := c.code } := by
  simp [State.raise, h]

/-- An issued word runs in a state without a fault. -/
theorem unfaulted_of_issues {s s1 : State} {d : UnitDraw} {w : Word} (h : Issues s d w s1) : s1.fault = 0#8 := by
  have hf : s.drawn.fault = 0#8 := by simpa using h.1.1
  obtain ⟨-, ⟨p, ws, -, ⟨-, rfl⟩ | ⟨-, rfl⟩ | ⟨-, rfl⟩⟩ | ⟨ws, -, -, rfl⟩⟩ := h <;> exact hf

theorem runWord_of_illegal {w : Word} (h : decode w = .error .illegalOpcode) (s : State) :
    runWord w s = .next (s.raise .illegalOpcode) := by
  simp [runWord, h]

theorem runWord_of_reserved {w : Word} (h : decode w = .error .reservedNonzero) (s : State) :
    runWord w s = .next (s.raise .reservedNonzero) := by
  simp [runWord, h]

/-- A word that only raises a fault makes the step that writes the fault's code. -/
theorem step_of_raise {s s1 : State} {d : UnitDraw} {w : Word} {c : FaultCode} (h : Issues s d w s1)
    (hw : runWord w s1 = .next (s1.raise c)) : step s = .next { s1 with fault := c.code } := by
  rw [step_of_issues h, hw, raise_of_unfaulted (unfaulted_of_issues h)]

/-- Settles O26: the decoder rejects the word before its operation, and so its context, is known. -/
theorem badWordsFaultBeforeContext : Obligations.BadWordsFaultBeforeContext := by
  unfold Obligations.BadWordsFaultBeforeContext
  intro s s1 d w h
  simp only [← opcOf_toNat, mem_reservedBits_iff]
  constructor
  · intro hopc
    refine step_of_raise h (runWord_of_illegal (decode_of_unassigned ?_) s1)
    exact Option.eq_none_iff_forall_ne_some.2 fun f hf => hopc f.reservedMask ⟨f, hf, rfl⟩
  · rintro m ⟨f, hf, rfl⟩ hr
    exact step_of_raise h (runWord_of_reserved (decode_of_reserved hf hr) s1)

end Sys2Proof.Machine
end

section
/-! The status-code map (30_encoding.md R104): the event of a code the map names, and of any other. -/

namespace Sys2Proof.Machine

/-- In a legal map a code that is a row's under the mask has that row's event. -/
theorem StatusMap.event_of_row {m : StatusMap} (hm : m.legal = true) {v : Byte} {ev : BusEvent}
    (hr : (v, ev) ∈ m.rows) {code : Byte} (h : code &&& m.mask = v) : m.event code = ev := by
  have honce : (m.rows.map Prod.fst).Nodup := by
    simp only [StatusMap.legal, Bool.and_eq_true, decide_eq_true_eq] at hm
    exact hm.2
  unfold StatusMap.event
  cases hfind : m.rows.find? (fun r => r.1 == code &&& m.mask) with
  | none => simpa [h] using List.find?_eq_none.1 hfind _ hr
  | some r =>
    have hv : r.1 = v := by simpa [h] using List.find?_some hfind
    rw [List.inj_on_of_nodup_map honce (List.mem_of_find?_eq_some hfind) hr hv]

/-- A code that is no row's under the mask is `OTHER(code)`. -/
theorem StatusMap.event_of_unnamed {m : StatusMap} {code : Byte} (h : ∀ r ∈ m.rows, r.1 ≠ code &&& m.mask) :
    m.event code = .other code := by
  have hfind : m.rows.find? (fun r => r.1 == code &&& m.mask) = none := List.find?_eq_none.2 (by simpa using h)
  rw [StatusMap.event, hfind]

theorem defaultStatusMap_event_of_row {v : Byte} {ev : BusEvent} (hr : (v, ev) ∈ defaultStatusMap.rows)
    {code : Byte} : code &&& 0xF8#8 = v → defaultStatusMap.event code = ev :=
  StatusMap.event_of_row (m := defaultStatusMap) (by decide) hr

/-- The default table ends at 0x58. -/
theorem defaultStatusMap_rows_le : ∀ r ∈ defaultStatusMap.rows, r.1 ≤ 0x58#8 := by decide

theorem defaultStatusMap_event_above {code : Byte} (h : 0x58#8 < code &&& 0xF8#8) :
    defaultStatusMap.event code = .other code :=
  StatusMap.event_of_unnamed fun r hr => fun heq => BitVec.not_lt.2 (defaultStatusMap_rows_le r hr) (heq ▸ h)

/-- Settles O28, row by row of the table, with every code above the last row. -/
theorem statusCodesMapToEvents : Obligations.StatusCodesMapToEvents := by
  unfold Obligations.StatusCodesMapToEvents
  refine ⟨rfl, fun code => ⟨?_, ?_, ?_, ?_, ?_, ?_, ?_, ?_, ?_, ?_, ?_, ?_, defaultStatusMap_event_above⟩⟩
  all_goals exact defaultStatusMap_event_of_row (by decide)

end Sys2Proof.Machine
end

section
/-! The critical section's two operations (41_critical_section.md R120, R122, R123): where each has its effect and where it
faults, and two nested sections (R124). -/

namespace Sys2Proof.Machine

/-- An operation the matrix refuses writes `FAULT = 3` and nothing else (60_exceptions.md R285). -/
theorem faultsOnly_of_denied {i : Instr} {s : State} (h : ¬ mayIssue i s = true) (hf : s.fault = 0#8) :
    FaultsOnly i s 3#8 := by
  rw [FaultsOnly, exec_denied (by simpa using h), raise_of_unfaulted hf]
  rfl

theorem inCtx_inj {c c' : Ctx} {s : State} (h : InCtx c s) (h' : InCtx c' s) : c = c' := Option.some.inj (h.symm.trans h')

/-- Settles O1: the matrix allows `CS_ENTER` to the programs and to the other device's interrupt alone. -/
theorem csEnterSavesFlagAndDisables : Obligations.CsEnterSavesFlagAndDisables := by
  unfold Obligations.CsEnterSavesFlagAndDisables
  refine ⟨rfl, fun s => ⟨fun hp => ⟨_, exec_allowed ((mayIssue_csEnter s).2 hp)⟩, fun hp hf => ?_⟩⟩
  exact faultsOnly_of_denied (fun hm => hp ((mayIssue_csEnter s).1 hm)) hf

/-- `CS_EXIT 1` may be issued in no interrupt and in no transfer handler (R123). -/
theorem not_mayIssue_csExit_true {s : State}
    (h : InCtx .isrTick s ∨ InCtx .isrI2c s ∨ InCtx .isrOther s ∨ InXfer s) : ¬ mayIssue (.csExit true) s = true := by
  rw [mayIssue_csExit]
  obtain ⟨c, hc, hk⟩ : ∃ c, InCtx c s ∧ c.aboveBase := by
    obtain h | h | h | ⟨st, h⟩ := h
    · exact ⟨_, h, .inl rfl⟩
    · exact ⟨_, h, .inl rfl⟩
    · exact ⟨_, h, .inl rfl⟩
    · exact ⟨_, h, .inr ⟨st, rfl⟩⟩
  rintro (hb | ⟨i, ht⟩ | ⟨hf, -⟩)
  · obtain rfl := inCtx_inj hc hb
    simp [Ctx.aboveBase, Ctx.isIsr] at hk
  · obtain rfl := inCtx_inj hc ht
    simp [Ctx.aboveBase, Ctx.isIsr] at hk
  · cases hf

/-- What may issue `CS_EXIT` may issue `CS_ENTER`. -/
theorem inProgram_of_csExit {s : State} {t : Bool} (h : mayIssue (.csExit t) s = true) : InProgram s := by
  obtain hb | ht | ⟨-, hp⟩ := (mayIssue_csExit s t).1 h
  · exact .inl hb
  · exact .inr (.inl ht)
  · exact hp

/-- Settles O2, by the row of `CS_EXIT` in the permission matrix. -/
theorem csExitRestoresFlag : Obligations.CsExitRestoresFlag := by
  unfold Obligations.CsExitRestoresFlag
  refine fun t => ⟨by cases t <;> rfl, fun s => ⟨fun hp => ?_, fun ht hc hf => ?_, fun hp hf => ?_⟩⟩
  · exact ⟨_, exec_allowed ((mayIssue_csExit s t).2 hp)⟩
  · subst ht
    exact faultsOnly_of_denied (not_mayIssue_csExit_true hc) hf
  · exact faultsOnly_of_denied (fun hm => hp (inProgram_of_csExit hm)) hf

/-- `CS_ENTER` in a program returns the flag it clears (R120). -/
theorem csEnter_flag {s t : State} {token : Bool} (hp : InProgram s) (h : exec .csEnter s = .next t)
    (hr : t.result = .token token) : t.iFlag = false ∧ token = s.iFlag := by
  rw [exec_allowed ((mayIssue_csEnter s).2 hp)] at h
  cases h
  exact ⟨rfl, (Result.token.inj hr).symm⟩

/-- `CS_EXIT T` where it may be issued writes `T` to the flag (R122). -/
theorem csExit_flag {s t : State} {b : Bool} (hm : InCtx .boot s ∨ InTask s ∨ (b = false ∧ InProgram s))
    (h : exec (.csExit b) s = .next t) : t.iFlag = b := by
  rw [exec_allowed ((mayIssue_csExit s b).2 hm)] at h
  cases h
  rfl

theorem inProgram_congr {s t : State} (h : t.ctx = s.ctx) : InProgram t ↔ InProgram s := by
  simp only [InProgram, InTask, InXfer, InCtx, h]

/-- Settles O3: the inner section enters with `I = 0`, so its token is 0, and the outer token is the flag at the start. -/
theorem nestedSectionsRestoreFlag : Obligations.NestedSectionsRestoreFlag := by
  unfold Obligations.NestedSectionsRestoreFlag
  intro a b b' c c' d d' e t1 t2 hctx hab ht1 hbi hbc hbc' ht2 hci hcc hcd hdi hdc hde
  have hprog : InProgram a := by
    obtain h | h | ⟨h, -⟩ := hctx
    · exact .inl h
    · exact .inr (.inl h)
    · exact h
  obtain ⟨hb, rfl⟩ := csEnter_flag hprog hab ht1
  obtain ⟨-, rfl⟩ := csEnter_flag ((inProgram_congr hbc).2 hprog) hbc' ht2
  have hinner : b'.iFlag = false := hbi.trans hb
  have houter : InCtx .boot d' ∨ InTask d' ∨ (a.iFlag = false ∧ InProgram d') := by
    simpa only [InCtx, InTask, inProgram_congr hdc, hdc, and_comm] using hctx
  have hd := csExit_flag (.inr (.inr ⟨hinner, (inProgram_congr hcc).2 hprog⟩)) hcd
  exact ⟨hd.trans hinner, csExit_flag houter hde⟩

end Sys2Proof.Machine
end

section
/-! What the pairing check says of a program is what running it does (41_critical_section.md R126; log 11): the tokens
the check has open are those of the brackets recorded at the program's height of the context stack. -/

namespace Sys2Proof

/-- The check's flag after one operation: `pairedFrom` and `flagAfter` are folds of it (`pairedFrom_cons`,
`flagAfter_cons`). -/
def checkFlag (enables i : Bool) : Instr → Bool
  | .csEnter => false
  | .csExit t => if enables || !t then t else i
  | _ => i

/-- The open tokens after an exit with `t`: the innermost is closed if it is `t`. -/
def closeToken (t : Bool) : List Bool → List Bool
  | [] => []
  | token :: outer => if token = t then outer else token :: outer

/-- The check's open tokens after one operation that finds the flag `i`. -/
def checkOpened (i : Bool) (opened : List Bool) : Instr → List Bool
  | .csEnter => i :: opened
  | .csExit t => closeToken t opened
  | _ => opened

theorem pairedFrom_cons (enables i : Bool) (opened : List Bool) (x : Instr) (p : List Instr) :
    pairedFrom enables i opened (x :: p) = pairedFrom enables (checkFlag enables i x) (checkOpened i opened x) p := by
  cases x with
  | csExit t => cases opened <;> rfl
  | _ => rfl

theorem flagAfter_cons (i : Bool) (x : Instr) (p : List Instr) :
    flagAfter i (x :: p) = flagAfter (checkFlag true i x) p := by
  cases x <;> rfl

/-- An exit opens no bracket. -/
theorem mem_of_mem_closeToken {t token : Bool} {opened : List Bool} (h : token ∈ closeToken t opened) :
    token ∈ opened := by
  cases opened with
  | nil => exact h
  | cons innermost outer =>
    rw [closeToken] at h
    split at h
    · exact List.mem_cons_of_mem innermost h
    · exact h

theorem closeToken_of_not_mem {t : Bool} {opened : List Bool} (h : t ∉ opened) : closeToken t opened = opened := by
  cases opened with
  | nil => rfl
  | cons token outer => exact if_neg fun (he : token = t) => h (he ▸ List.mem_cons_self)

end Sys2Proof

namespace Sys2Proof.Machine

/-- The context stack, `I` and the open brackets stay as they are. -/
structure SectionKept (s t : State) : Prop where
  ctx : t.ctx = s.ctx
  iFlag : t.iFlag = s.iFlag
  brackets : t.brackets = s.brackets

theorem DriverFrame.sectionKept {s t : State} (h : DriverFrame s t) : SectionKept s t := ⟨h.ctx, h.iFlag, h.brackets⟩

theorem effectSchedTask_sectionKept (h : Byte) (delay : Ticks) (s : State) :
    SectionKept s (effectSchedTask h delay s) := by
  unfold effectSchedTask
  split
  · exact ⟨rfl, rfl, rfl⟩
  split
  · exact ⟨rfl, rfl, rfl⟩
  split <;> exact ⟨rfl, rfl, rfl⟩

theorem effectUnschedTask_sectionKept (id : Byte) (s : State) : SectionKept s (effectUnschedTask id s) := by
  unfold effectUnschedTask
  split <;> exact ⟨rfl, rfl, rfl⟩

theorem effectI2cReq_sectionKept (addr : SlaveAddr) (rw : Bool) (h : Byte) (s : State) :
    SectionKept s (effectI2cReq addr rw h s) := by
  unfold effectI2cReq
  split
  · exact ⟨rfl, rfl, rfl⟩
  split <;> exact ⟨rfl, rfl, rfl⟩

theorem effectI2cReqi_sectionKept (addr : SlaveAddr) (rw : Bool) (h : Byte) (s : State) :
    SectionKept s (effectI2cReqi addr rw h s) := by
  unfold effectI2cReqi
  split <;> exact ⟨rfl, rfl, rfl⟩

theorem effectI2cPoll_sectionKept (s : State) : SectionKept s (effectI2cPoll s) := by
  obtain ⟨hctx, hflag, hbrackets⟩ := (busPoll_frame s).sectionKept
  exact ⟨hctx, hflag, hbrackets⟩

/-- A program that is checked with `enables` runs in the current context, `opened` are the tokens of the
brackets it has open, and where it may not enable interrupts they are disabled (R123). -/
structure Checked (enables : Bool) (opened : List Bool) (s : State) : Prop where
  ctx : (enables = true ∧ (InCtx .boot s ∨ InTask s)) ∨ (enables = false ∧ InXfer s)
  brackets : ∃ outer, s.brackets = opened.map (Bracket.mk s.ctx.length) ++ outer ∧
    ∀ b ∈ outer, b.height < s.ctx.length
  disabled : enables = false → s.iFlag = false ∧ true ∉ opened

theorem Checked.bracketsPaired_iff {enables : Bool} {opened : List Bool} {s : State} (h : Checked enables opened s) :
    BracketsPaired s ↔ opened.isEmpty = true := by
  obtain ⟨outer, hb, houter⟩ := h.brackets
  rw [BracketsPaired, hb]
  cases opened with
  | nil => simpa using houter
  | cons token opened => simp

theorem Checked.of_sectionKept {enables : Bool} {opened : List Bool} {s t : State} (h : Checked enables opened s)
    (hk : SectionKept s t) : Checked enables opened t := by
  obtain ⟨hctx, hbrackets, hdisabled⟩ := h
  refine ⟨?_, ?_, ?_⟩
  · simpa only [InCtx, InTask, InXfer, hk.ctx] using hctx
  · rw [hk.brackets, hk.ctx]
    exact hbrackets
  · rw [hk.iFlag]
    exact hdisabled

section operation
variable {enables : Bool} {opened : List Bool} {s : State} (h : Checked enables opened s)
include h

theorem Checked.inProgram : InProgram s := by
  obtain ⟨-, hc | hc⟩ | ⟨-, hc⟩ := h.ctx
  · exact .inl hc
  · exact .inr (.inl hc)
  · exact .inr (.inr (.inl hc))

/-- Neither the engine nor an interrupt runs. -/
theorem Checked.not_inCtx {c : Ctx} (hc : c = .poll ∨ c.isIsr = true) : ¬ InCtx c s := by
  intro hs
  obtain ⟨-, hx | ⟨i, hx⟩⟩ | ⟨-, st, hx⟩ := h.ctx <;> obtain rfl := inCtx_inj hs hx <;> simp [Ctx.isIsr] at hc

theorem Checked.mayIssue_csExit (t : Bool) : mayIssue (.csExit t) s = (enables || !t) := by
  obtain ⟨rfl, hc⟩ | ⟨rfl, hc⟩ := h.ctx
  · exact (Machine.mayIssue_csExit s t).2 (hc.imp_right .inl)
  · cases t
    · exact (Machine.mayIssue_csExit s false).2 (.inr (.inr ⟨rfl, h.inProgram⟩))
    · exact Bool.eq_false_iff.2 (not_mayIssue_csExit_true (.inr (.inr (.inr hc))))

theorem Checked.csEnter : Checked enables (s.iFlag :: opened) (effectCsEnter s) := by
  obtain ⟨hctx, ⟨outer, hb, houter⟩, hdisabled⟩ := h
  refine ⟨hctx, ⟨outer, congrArg (Bracket.mk s.ctx.length s.iFlag :: ·) hb, houter⟩, fun he => ⟨rfl, ?_⟩⟩
  obtain ⟨hi, hopen⟩ := hdisabled he
  simpa [hi] using hopen

/-- The recorded bracket is closed when the check closes the token, and never one of an outer program. -/
theorem Checked.closeBracket (t : Bool) : ∃ outer,
    (s.closeBracket t).brackets = (closeToken t opened).map (Bracket.mk s.ctx.length) ++ outer ∧
      ∀ b ∈ outer, b.height < s.ctx.length := by
  obtain ⟨outer, hb, houter⟩ := h.brackets
  refine ⟨outer, ?_, houter⟩
  unfold State.closeBracket
  cases opened with
  | cons token opened => by_cases ht : token = t <;> simp [hb, closeToken, ht]
  | nil =>
    cases outer with
    | nil => simp [hb, closeToken]
    | cons b outer =>
      have hne : b ≠ ⟨s.ctx.length, t⟩ := by
        rintro rfl
        exact absurd (houter _ List.mem_cons_self) (Nat.lt_irrefl _)
      simp [hb, closeToken, hne]

theorem Checked.csExit {t : Bool} (ht : (enables || !t) = true) :
    Checked enables (closeToken t opened) (effectCsExit t s) := by
  refine ⟨h.ctx, h.closeBracket t, fun he => ⟨?_, fun hm => ?_⟩⟩
  · change t = false
    simpa [he] using ht
  · exact (h.disabled he).2 (mem_of_mem_closeToken hm)

/-- An exit that a transfer handler may not issue faults, and closes no token: they are all 0. -/
theorem Checked.csExit_denied {t : Bool} (ht : (enables || !t) = false) : closeToken t opened = opened := by
  obtain ⟨he, ht⟩ := Bool.or_eq_false_iff.1 ht
  obtain rfl : t = true := by simpa using ht
  exact closeToken_of_not_mem (h.disabled he).2

/-- The other operations leave the section alone: those that do not may not be issued here (60_exceptions.md R285). -/
theorem Checked.effectOf_sectionKept {x : Instr} (hm : mayIssue x s = true) (henter : x ≠ .csEnter)
    (hexit : ∀ t, x ≠ .csExit t) (hrun : x = .run → ¬ InCtx .boot s) : SectionKept s (effectOf x s) := by
  cases x with
  | csEnter => exact absurd rfl henter
  | csExit t => exact absurd rfl (hexit t)
  | wait => exact absurd ((mayIssue_wait s).1 hm).1 (h.not_inCtx (.inl rfl))
  | run => exact absurd ((mayIssue_run s).1 hm) (hrun rfl)
  | tick => exact absurd ((mayIssue_tick s).1 hm) (h.not_inCtx (.inr rfl))
  | i2cEvent code data => exact absurd ((mayIssue_i2cEvent s code data).1 hm) (h.not_inCtx (.inr rfl))
  | schedTask hd delay => exact effectSchedTask_sectionKept hd delay s
  | unschedTask id => exact effectUnschedTask_sectionKept id s
  | i2cReq addr rw hd => exact effectI2cReq_sectionKept addr rw hd s
  | i2cReqi addr rw hd => exact effectI2cReqi_sectionKept addr rw hd s
  | i2cPoll => exact effectI2cPoll_sectionKept s
  | schedPoll | i2cNack | i2cTx _ => exact ⟨rfl, rfl, rfl⟩

theorem Checked.exec_sectionKept {x : Instr} {t : State} (hx : exec x s = .next t) (henter : x ≠ .csEnter)
    (hexit : ∀ b, x ≠ .csExit b) (hrun : x = .run → ¬ InCtx .boot s) : SectionKept s t := by
  cases hm : mayIssue x s
  · rw [exec_denied hm] at hx
    cases hx
    exact ⟨rfl, rfl, rfl⟩
  · rw [exec_allowed hm] at hx
    cases hx
    exact h.effectOf_sectionKept hm henter hexit hrun

/-- One operation does to the state what the check does to its flag and its tokens. -/
theorem Checked.exec {x : Instr} {t : State} (hx : exec x s = .next t) (hrun : x = .run → ¬ InCtx .boot s) :
    Checked enables (checkOpened s.iFlag opened x) t ∧ t.iFlag = checkFlag enables s.iFlag x ∧ t.ctx = s.ctx := by
  cases x with
  | csEnter =>
    rw [exec_allowed ((mayIssue_csEnter s).2 h.inProgram)] at hx
    cases hx
    exact ⟨h.csEnter, rfl, rfl⟩
  | csExit b =>
    simp only [checkOpened, checkFlag]
    cases hm : (enables || !b)
    · rw [exec_denied ((h.mayIssue_csExit b).trans hm)] at hx
      cases hx
      rw [h.csExit_denied hm]
      exact ⟨h.of_sectionKept ⟨rfl, rfl, rfl⟩, rfl, rfl⟩
    · rw [exec_allowed ((h.mayIssue_csExit b).trans hm)] at hx
      cases hx
      exact ⟨h.csExit hm, rfl, rfl⟩
  | _ =>
    have hk := h.exec_sectionKept hx (by simp) (by simp) hrun
    exact ⟨h.of_sectionKept hk, hk.iFlag, hk.ctx⟩

end operation

theorem runOps_cons {x : Instr} {p : List Instr} {s t : State} (h : exec x s = .next t) :
    runOps (x :: p) s = runOps p t := by
  simp [runOps, h]

/-- A program's run follows its check, from any open brackets on. -/
theorem Checked.runOps {enables : Bool} (p : List Instr) {opened : List Bool} {s : State}
    (h : Checked enables opened s) (hrun : InCtx .boot s → .run ∉ p) :
    ∃ t, runOps p s = some t ∧ (BracketsPaired t ↔ pairedFrom enables s.iFlag opened p = true) ∧
      (enables = true → t.iFlag = flagAfter s.iFlag p) ∧ (enables = false → t.iFlag = false) := by
  induction p generalizing opened s with
  | nil => exact ⟨s, rfl, h.bracketsPaired_iff, fun _ => rfl, fun he => (h.disabled he).1⟩
  | cons x p ih =>
    obtain ⟨u, hu⟩ := exec_next x s
    obtain ⟨hc, hflag, hctx⟩ := h.exec hu fun hx hb => hrun hb (hx ▸ List.mem_cons_self)
    have hrun' : InCtx .boot u → .run ∉ p := by
      rw [InCtx, hctx]
      exact fun hb hm => hrun hb (List.mem_cons_of_mem x hm)
    obtain ⟨t, ht, hpaired, henabled, hdisabled⟩ := ih hc hrun'
    rw [hflag] at hpaired henabled
    refine ⟨t, (runOps_cons hu).trans ht, by rw [pairedFrom_cons]; exact hpaired, fun he => ?_, hdisabled⟩
    rw [henabled he, he, flagAfter_cons]

/-- Before its first operation a program has no bracket open. -/
theorem Checked.of_paired {enables : Bool} {s : State} (h : BracketsPaired s)
    (hc : (enables = true ∧ (InCtx .boot s ∨ InTask s)) ∨ (enables = false ∧ InXfer s))
    (hi : enables = false → s.iFlag = false) : Checked enables [] s :=
  ⟨hc, ⟨s.brackets, rfl, h⟩, fun he => ⟨hi he, List.not_mem_nil⟩⟩

/-- Settles O4: by induction on the program, the brackets recorded are the check's tokens. -/
theorem pairingCheckFollowsProgram : Obligations.PairingCheckFollowsProgram := by
  unfold Obligations.PairingCheckFollowsProgram
  intro p s hs
  constructor
  · intro hc
    have hrun : InCtx .boot s → .run ∉ p := by
      obtain ⟨-, hp⟩ | ⟨i, ht⟩ := hc
      · exact fun _ hm => hp _ hm rfl
      · exact fun hb => Ctx.noConfusion (inCtx_inj hb ht)
    obtain ⟨t, ht, hpaired, hflag, -⟩ :=
      (Checked.of_paired hs (.inl ⟨rfl, hc.imp_left And.left⟩) (by simp)).runOps p hrun
    exact ⟨t, ht, hpaired, hflag rfl⟩
  · intro hx hi
    have hrun : InCtx .boot s → .run ∉ p := by
      obtain ⟨st, hx⟩ := hx
      exact fun hb => Ctx.noConfusion (inCtx_inj hb hx)
    obtain ⟨t, ht, hpaired, -, hflag⟩ := (Checked.of_paired hs (.inr ⟨rfl, hx⟩) fun _ => hi).runOps p hrun
    exact ⟨t, ht, hpaired, hflag rfl⟩

end Sys2Proof.Machine
end

section
/-! The refused steps (41_critical_section.md R126, 70_reset_and_hazards.md R331; log 11, log 12). -/

namespace Sys2Proof.Machine

theorem refusalOf_boot_some {i : Bool} {p : Program} {r : Refusal} :
    refusalOf .boot i p = some r ↔ r = .unpairedCriticalSection ∧ ¬ PairedBoot i p := by
  rw [refusalOf_boot, PairedBoot]
  split <;> simp [*, eq_comm (b := r)]

theorem refusalOf_xfer_some {st : Status} {i : Bool} {p : Program} {r : Refusal} :
    refusalOf (.xferCb st) i p = some r ↔ r = .unpairedCriticalSection ∧ ¬ PairedText false i p := by
  rw [refusalOf_xfer, PairedText]
  split <;> simp [*, eq_comm (b := r)]

theorem refusalOf_task_some {n : Nat} {i : Bool} {p : Program} {r : Refusal} :
    refusalOf (.taskCb n) i p = some r ↔
      (r = .unpairedCriticalSection ∧ ¬ PairedText true i p) ∨
      (r = .returnWithInterruptsOff ∧ PairedText true i p ∧ ¬ ReturnsEnabled i p) := by
  rw [refusalOf_task, PairedText, ReturnsEnabled]
  split
  · split <;> simp_all [eq_comm (b := r)]
  · simp_all [eq_comm (b := r)]

/-- The first step of a program that fails its context's checks is refused. -/
theorem step_of_refusal {s : State} {d : UnitDraw} (h : UnitTurn s d) {c : Ctx} (hc : InCtx c s)
    (hk : c = .boot ∨ (∃ i, c = .taskCb i) ∨ ∃ st, c = .xferCb st) (hn : s.code = none) {r : Refusal}
    (hr : refusalOf c s.iFlag d.prog = some r) : step s = .refused r := by
  rw [step_of_software h hc hk]
  simp [softwareStep, hn, hr]

theorem programStep_return_disabled {p : Program} {s : State} {i : Nat} (hc : InCtx (.taskCb i) s) (hw : p.words = [])
    (hr : p.returns = true) (hi : s.iFlag = false) : programStep p s = .refused .returnWithInterruptsOff := by
  obtain ⟨rest, hctx⟩ := inCtx_cons hc
  simp [programStep, taskReturns, hw, hr, hctx, hi]

/-- A task handler's return with `I = 0` is refused (R331). -/
theorem step_of_return_disabled {s : State} {d : UnitDraw} {delay : Ticks} (h : TaskReturn s d delay)
    (hi : s.iFlag = false) : step s = .refused .returnWithInterruptsOff := by
  obtain ⟨p, hu, hrun, hw, hr, -⟩ := h
  obtain ⟨i, hc⟩ := hrun.1
  rw [step_of_software hu hc (.inr (.inl ⟨i, rfl⟩)), softwareStep_of_runs hc ((runsCode_task hrun.1 d p).2 hrun)]
  exact programStep_return_disabled (i := i) (by simpa [InCtx] using hc) hw hr (by simpa using hi)

theorem bodyStep_not_refused {s : State} {r : Refusal} : bodyStep s ≠ .refused r := by
  unfold bodyStep
  split
  · exact runWord_not_refused
  · simp

/-- On the execution unit's turn only a software context's step is refused. -/
theorem unitStep_refused {s : State} {d : UnitDraw} {r : Refusal} (h : unitStep d s = .refused r) :
    (s.iFlag && s.anyIrq) = false ∧ s.sleeping = false ∧
      ∃ c, InCtx c s ∧ (c = .boot ∨ (∃ i, c = .taskCb i) ∨ ∃ st, c = .xferCb st) ∧
        softwareStep c d.prog s = .refused r := by
  unfold unitStep at h
  split at h
  · cases h
  rename_i hirq
  split at h
  · cases h
  rename_i hsleep
  refine ⟨by simpa using hirq, by simpa using hsleep, ?_⟩
  split at h <;> rename_i hc
  · cases h
  · cases h
  · exact absurd h bodyStep_not_refused
  · exact absurd h bodyStep_not_refused
  · exact absurd h bodyStep_not_refused
  · exact ⟨.boot, by simp [InCtx, hc], .inl rfl, h⟩
  · exact ⟨.taskCb _, by rw [InCtx, hc]; rfl, .inr (.inl ⟨_, rfl⟩), h⟩
  · exact ⟨.xferCb _, by rw [InCtx, hc]; rfl, .inr (.inr ⟨_, rfl⟩), h⟩

/-- A refused step is one of the execution unit's, by a program. -/
theorem step_refused {s : State} {r : Refusal} (h : step s = .refused r) :
    ∃ d c, UnitTurn s d ∧ InCtx c s ∧ (c = .boot ∨ (∃ i, c = .taskCb i) ∨ ∃ st, c = .xferCb st) ∧
      softwareStep c d.prog s.drawn = .refused r := by
  unfold step at h
  split at h
  swap
  · cases h
  rename_i hf
  cases ht : s.nextTurn with
  | execUnit d =>
    rw [ht] at h
    obtain ⟨hirq, hsleep, c, hc, hk, hstep⟩ := unitStep_refused h
    refine ⟨d, c, ⟨hf, ht, by simpa using hsleep, ?_⟩, by simpa [InCtx] using hc, hk, hstep⟩
    simpa [State.anyIrq, and_assoc, ← Bool.not_eq_true, imp_iff_not_or] using hirq
  | tickTimer | otherDevice | controller _ _ =>
    rw [ht] at h
    cases h

/-- A program in progress is refused only at a task handler's return with `I = 0`. -/
theorem taskReturn_of_refused {s : State} {d : UnitDraw} {p : Program} {r : Refusal} (hu : UnitTurn s d)
    (hrun : RunsCode s d p) (h : programStep p s.drawn = .refused r) :
    r = .returnWithInterruptsOff ∧ s.iFlag = false ∧ TaskReturn s d p.delay := by
  obtain ⟨hr, hi, hw, hret, i, rest, hctx⟩ := programStep_refused h
  have htask : InTask s := ⟨i, by rw [InCtx, ← State.drawn_ctx, hctx]; rfl⟩
  exact ⟨hr, by simpa using hi, p, hu, (runsCode_task htask d p).1 hrun, hw, hret, rfl⟩

/-- The first step of a program that its context's checks refuse, context by context. -/
theorem refusal_cases {s : State} {d : UnitDraw} {c : Ctx} {r : Refusal} (hc : InCtx c s)
    (hk : c = .boot ∨ (∃ i, c = .taskCb i) ∨ ∃ st, c = .xferCb st) (hn : s.code = none)
    (hr : refusalOf c s.iFlag d.prog = some r) :
    (r = .unpairedCriticalSection ∧
      ((InCtx .boot s ∧ s.bootCode = none ∧ ¬ PairedBoot s.iFlag d.prog) ∨
        (InTask s ∧ s.taskCode = none ∧ ¬ PairedText true s.iFlag d.prog) ∨
        (InXfer s ∧ s.xferCode = none ∧ ¬ PairedText false s.iFlag d.prog))) ∨
    (r = .returnWithInterruptsOff ∧ InTask s ∧ s.taskCode = none ∧ ¬ ReturnsEnabled s.iFlag d.prog) := by
  obtain rfl | ⟨i, rfl⟩ | ⟨st, rfl⟩ := hk
  · rw [code_of_boot hc] at hn
    obtain ⟨rfl, hp⟩ := refusalOf_boot_some.1 hr
    exact .inl ⟨rfl, .inl ⟨hc, hn, hp⟩⟩
  · rw [code_of_task hc] at hn
    obtain ⟨rfl, hp⟩ | ⟨rfl, -, hp⟩ := refusalOf_task_some.1 hr
    · exact .inl ⟨rfl, .inr (.inl ⟨⟨i, hc⟩, hn, hp⟩)⟩
    · exact .inr ⟨rfl, ⟨i, hc⟩, hn, hp⟩
  · rw [code_of_xfer hc] at hn
    obtain ⟨rfl, hp⟩ := refusalOf_xfer_some.1 hr
    exact .inl ⟨rfl, .inr (.inr ⟨⟨st, hc⟩, hn, hp⟩)⟩

/-- Settles O34: the check stands before a program's first step, and a program in progress is refused at a task handler's
return alone. -/
theorem unpairedProgramIsRefused : Obligations.UnpairedProgramIsRefused := by
  unfold Obligations.UnpairedProgramIsRefused
  refine ⟨fun s d hu => ⟨fun hc hn hp => ?_, ?_, ?_, ?_, fun delay => step_of_return_disabled⟩, fun s r h => ?_⟩
  · exact step_of_refusal hu hc (.inl rfl) (by rw [code_of_boot hc, hn]) (refusalOf_boot_some.2 ⟨rfl, hp⟩)
  · rintro ⟨i, hc⟩ hn hp
    exact step_of_refusal hu hc (.inr (.inl ⟨i, rfl⟩)) (by rw [code_of_task hc, hn])
      (refusalOf_task_some.2 (.inl ⟨rfl, hp⟩))
  · rintro ⟨st, hc⟩ hn hp
    exact step_of_refusal hu hc (.inr (.inr ⟨st, rfl⟩)) (by rw [code_of_xfer hc, hn])
      (refusalOf_xfer_some.2 ⟨rfl, hp⟩)
  · rintro ⟨i, hc⟩ hn hpaired hp
    exact step_of_refusal hu hc (.inr (.inl ⟨i, rfl⟩)) (by rw [code_of_task hc, hn])
      (refusalOf_task_some.2 (.inr ⟨rfl, hpaired, hp⟩))
  · obtain ⟨d, c, hu, hc, hk, hstep⟩ := step_refused h
    refine ⟨d, hu, ?_⟩
    obtain ⟨hn, hr⟩ | ⟨p, hprog, hrun⟩ := softwareStep_refused hstep
    · exact (refusal_cases hc hk (by simpa using hn) (by simpa using hr)).imp_right (And.imp_right .inl)
    · have hrun : RunsCode s d p := (runsCode_iff hc d p).2 (by simpa using hrun)
      obtain ⟨hr, hi, hret⟩ := taskReturn_of_refused hu hrun hprog
      exact .inr ⟨hr, .inr ⟨hi, p.delay, hret⟩⟩

end Sys2Proof.Machine
end

section
/-! The scheduler's operations (42_scheduler.md R140 to R150): each has its effect where the matrix allows it, and each of
its checks writes its own fault code and nothing else. -/

namespace Sys2Proof.Machine

/-- An allowed operation whose check fails writes the check's fault code and nothing else (60_exceptions.md R282). -/
theorem faultsOnly_of_raise {i : Instr} {s : State} {c : FaultCode} (hm : mayIssue i s = true) (hf : s.fault = 0#8)
    (he : effectOf i s = s.raise c) : FaultsOnly i s c.code := by
  rw [FaultsOnly, exec_allowed hm, he, raise_of_unfaulted hf]

-- SCHED_TASK

theorem firstFreeTask_of_lowest {tasks : List TaskSlot} {i : Nat} {slot : TaskSlot} (hi : tasks[i]? = some slot)
    (hfree : slot.delay = 0#16) (hlow : ∀ j other, j < i → tasks[j]? = some other → other.delay ≠ 0#16) :
    firstFreeTask tasks = some i := by
  obtain ⟨hlt, rfl⟩ := List.getElem?_eq_some_iff.1 hi
  refine List.findIdx?_eq_some_iff_getElem.2 ⟨hlt, by simpa using hfree, fun j hj => ?_⟩
  simpa using hlow j _ hj (List.getElem?_eq_getElem (hj.trans hlt))

theorem firstFreeTask_of_full {tasks : List TaskSlot} (h : ∀ slot ∈ tasks, slot.delay ≠ 0#16) :
    firstFreeTask tasks = none := by
  simpa [firstFreeTask] using h

section schedTask
variable {h : Byte} {delay : Ticks} (s : State)

theorem effectSchedTask_nullHandler (hh : h = 0#8) : effectSchedTask h delay s = s.raise .nullHandler := if_pos hh

theorem effectSchedTask_zeroDelay (hh : h ≠ 0#8) (hd : delay = 0#16) :
    effectSchedTask h delay s = s.raise .invalidDelay := by
  rw [effectSchedTask, if_neg hh, if_pos hd]

theorem effectSchedTask_free {s : State} {i : Nat} (hh : h ≠ 0#8) (hd : delay ≠ 0#16)
    (hi : firstFreeTask s.tasks = some i) :
    effectSchedTask h delay s =
      { s with tasks := s.tasks.set i ⟨delay, h⟩, result := .scheduled true (BitVec.ofNat 8 i) } := by
  simp [effectSchedTask, hh, hd, hi, State.returns]

theorem effectSchedTask_full {s : State} (hh : h ≠ 0#8) (hd : delay ≠ 0#16) (hi : firstFreeTask s.tasks = none) :
    effectSchedTask h delay s = { s with result := .scheduled false 0#8 } := by
  simp [effectSchedTask, hh, hd, hi, State.returns]

end schedTask

/-- Settles O6: the operation's checks in their order, then the search for the lowest free slot. -/
theorem schedTaskTakesLowestFreeSlot : Obligations.SchedTaskTakesLowestFreeSlot := by
  unfold Obligations.SchedTaskTakesLowestFreeSlot
  refine fun h delay => ⟨rfl, fun s => ?_⟩
  have hm : InProgram s → mayIssue (.schedTask h delay) s = true := (mayIssue_schedTask s h delay).2
  refine ⟨fun hp hh hd => ⟨fun i slot hi hfree hlow => ?_, fun hfull => ?_⟩, fun hp hf hh => ?_, fun hp hf hh hd => ?_,
    fun hp hf => ?_⟩
  · rw [exec_allowed (hm hp), effectOf, effectSchedTask_free hh hd (firstFreeTask_of_lowest hi hfree hlow)]
  · rw [exec_allowed (hm hp), effectOf, effectSchedTask_full hh hd (firstFreeTask_of_full hfull)]
  · exact faultsOnly_of_raise (hm hp) hf (effectSchedTask_nullHandler s hh)
  · exact faultsOnly_of_raise (hm hp) hf (effectSchedTask_zeroDelay s hh hd)
  · exact faultsOnly_of_denied (mt (mayIssue_schedTask s h delay).1 hp) hf

-- The other operations

/-- Settles O7: an identifier within the table names a slot, whose delay alone is written. -/
theorem unschedTaskFreesSlot : Obligations.UnschedTaskFreesSlot := by
  unfold Obligations.UnschedTaskFreesSlot
  refine fun id => ⟨rfl, fun s => ?_⟩
  have hm : InProgram s → mayIssue (.unschedTask id) s = true := (mayIssue_unschedTask s id).2
  refine ⟨fun hp slot hslot => ?_, fun hp hf hid => ?_, fun hp hf => ?_⟩
  · have hid : id.toNat < s.tasks.length := (List.getElem?_eq_some_iff.1 hslot).1
    rw [exec_allowed (hm hp), effectOf, effectUnschedTask_valid (Nat.not_le.2 hid), modify_eq_set hslot]
    rfl
  · exact faultsOnly_of_raise (hm hp) hf (effectUnschedTask_invalid hid)
  · exact faultsOnly_of_denied (mt (mayIssue_unschedTask s id).1 hp) hf

/-- Settles O8: the matrix allows `SCHED_POLL` to the programs and to the other device's interrupt alone. -/
theorem schedPollRequestsRound : Obligations.SchedPollRequestsRound := by
  unfold Obligations.SchedPollRequestsRound
  refine ⟨rfl, fun s => ⟨fun hp => exec_allowed ((mayIssue_schedPoll s).2 hp), fun hp hf => ?_⟩⟩
  exact faultsOnly_of_denied (mt (mayIssue_schedPoll s).1 hp) hf

/-- Settles O9: addition of words is addition of integers modulo the width. -/
theorem tickCountsOneTick : Obligations.TickCountsOneTick := by
  unfold Obligations.TickCountsOneTick
  refine ⟨rfl, fun s => ⟨fun hc => ?_, fun hc hf => ?_⟩⟩
  · exact ⟨s.tickCount + 1, s.tickDelta + 1, BitVec.toNat_add .., BitVec.toNat_add ..,
      exec_allowed ((mayIssue_tick s).2 hc)⟩
  · exact faultsOnly_of_denied (mt (mayIssue_tick s).1 hc) hf

/-- Settles O10: the matrix allows `RUN` to boot code alone. -/
theorem runStartsEngine : Obligations.RunStartsEngine := by
  unfold Obligations.RunStartsEngine
  refine ⟨rfl, fun s => ⟨fun hc => exec_allowed ((mayIssue_run s).2 hc), fun hc hf => ?_⟩⟩
  exact faultsOnly_of_denied (mt (mayIssue_run s).1 hc) hf

end Sys2Proof.Machine
end

section
/-! The engine's turn (42_scheduler.md R160 to R168): the step is the micro-step that `PHASE` names, and what each
micro-step writes, case by case. -/

namespace Sys2Proof.Machine

/-- The micro-step of a phase; the engine has none in `IN_HANDLER` and `HALTED` (R160). -/
def microStep (gate : Bool) : Phase → State → State
  | .clear => engineClear
  | .drain => engineDrain
  | .scan => engineScan
  | .inHandler => id
  | .passEnd => enginePassEnd
  | .busPoll => engineBusPoll
  | .sleepCheck => engineSleepCheck gate
  | .halted => id

theorem engineStep_running {s : State} (hr : s.runActive = true) (gate : Bool) :
    engineStep gate s = microStep gate s.phase s := by
  unfold engineStep
  rw [if_pos hr]
  cases s.phase <;> rfl

theorem step_of_engineTurn {s : State} {d : UnitDraw} {p : Phase} (h : EngineTurn s d p) :
    step s = .next (microStep d.gate p s.drawn) := by
  obtain ⟨hu, hc, hr, rfl⟩ := h
  obtain ⟨hstep, hirq, hsleep⟩ := step_of_unitTurn hu
  obtain ⟨rest, hctx⟩ := inCtx_cons hc
  have hunit : unitStep d s.drawn = .next (engineStep d.gate s.drawn) := by simp [unitStep, hirq, hsleep, hctx]
  rw [hstep, hunit, engineStep_running (by simpa using hr), State.drawn_phase]

-- DRAIN (R162)

theorem engineDrain_zero {s : State} (h : s.tickDelta = 0#16) : engineDrain s = { s with phase := .busPoll } := by
  rw [engineDrain, if_pos h, ← h]

theorem engineDrain_nonzero {s : State} (h : s.tickDelta ≠ 0#16) :
    engineDrain s =
      { s with tickDelta := 0#16, roundTicks := s.tickDelta, nextTicks := 0#16, cursor := 0, phase := .scan } :=
  if_neg h

-- SCAN (R163)

theorem engineScan_past {s : State} (h : s.tasks.length ≤ s.cursor) : engineScan s = { s with phase := .passEnd } := by
  simp [engineScan, List.getElem?_eq_none h]

section slot
variable {s : State} {slot : TaskSlot} (hslot : s.tasks[s.cursor]? = some slot)
include hslot

theorem engineScan_free (hd : slot.delay = 0#16) : engineScan s = { s with cursor := s.cursor + 1 } := by
  simp [engineScan, hslot, hd]

theorem engineScan_expired (hd : slot.delay ≠ 0#16) (hle : slot.delay ≤ s.roundTicks) :
    engineScan s =
      { s with
        tasks := s.tasks.set s.cursor { slot with delay := s.params.placeholderDelay }
        phase := .inHandler }.callTask s.cursor slot.handler := by
  simp [engineScan, hslot, hd, hle]

theorem engineScan_reduced (hlt : s.roundTicks < slot.delay) :
    engineScan s =
      { s with
        tasks := s.tasks.set s.cursor { slot with delay := slot.delay - s.roundTicks }
        cursor := s.cursor + 1 } := by
  have hd : slot.delay ≠ 0#16 := by
    rintro h
    simp [h] at hlt
  simp [engineScan, hslot, hd, BitVec.not_le.2 hlt]

end slot

-- PASS_END (R167)

theorem enginePassEnd_zero {s : State} (h : s.nextTicks = 0#16) : enginePassEnd s = { s with phase := .busPoll } :=
  if_pos h

theorem enginePassEnd_nonzero {s : State} (h : s.nextTicks ≠ 0#16) :
    enginePassEnd s = { s with roundTicks := s.nextTicks, nextTicks := 0#16, cursor := 0, phase := .scan } :=
  if_neg h

-- The statements

/-- Settles O35: the engine's turn at `CLEAR` is that one micro-step. -/
theorem engineClearStep : Obligations.EngineClearStep := by
  unfold Obligations.EngineClearStep
  exact fun s d h => step_of_engineTurn h

/-- Settles O36, by the two cases of the tick delta. -/
theorem engineDrainStep : Obligations.EngineDrainStep := by
  unfold Obligations.EngineDrainStep
  refine fun s d h => ⟨fun hz => ?_, fun hn => ?_⟩
  · rw [step_of_engineTurn h, microStep, engineDrain_zero (by simpa using hz)]
  · rw [step_of_engineTurn h, microStep, engineDrain_nonzero (by simpa using hn), State.drawn_tickDelta]

/-- Settles O37, by the cases of the slot at `CURSOR`; in the last the reduction does not wrap. -/
theorem engineScanStep : Obligations.EngineScanStep := by
  unfold Obligations.EngineScanStep
  refine fun s d h => ?_
  rw [step_of_engineTurn h, microStep]
  refine ⟨fun hpast => ?_, fun slot hslot => ?_⟩
  · rw [engineScan_past (by simpa using hpast)]
  have hslot' : s.drawn.tasks[s.drawn.cursor]? = some slot := by simpa using hslot
  refine ⟨fun hd => ?_, fun hd hle => ?_, fun hlt => ?_⟩
  · rw [engineScan_free hslot' hd, State.drawn_cursor]
  · rw [engineScan_expired hslot' hd (by simpa [BitVec.le_def] using hle)]
    simp [State.callTask]
  · have hlt : s.roundTicks < slot.delay := BitVec.lt_def.2 hlt
    refine ⟨slot.delay - s.roundTicks, BitVec.toNat_sub_of_le (BitVec.le_of_lt hlt), ?_⟩
    rw [engineScan_reduced hslot' (by simpa using hlt)]
    simp

/-- Settles O39, by the two cases of the ticks drained during the pass. -/
theorem enginePassEndStep : Obligations.EnginePassEndStep := by
  unfold Obligations.EnginePassEndStep
  refine fun s d h => ⟨fun hn => ?_, fun hz => ?_⟩
  · rw [step_of_engineTurn h, microStep, enginePassEnd_nonzero (by simpa using hn), State.drawn_nextTicks]
  · rw [step_of_engineTurn h, microStep, enginePassEnd_zero (by simpa using hz)]

/-- START for the request at `RP` is what R302 says of it (43_i2c_requests.md R200). -/
theorem startTransfer_started {s : State} {q : Request} (hq : s.queue[s.rp]? = some q) :
    s.startTransfer = started s q (Config.freeByte s.draws) (Config.freeByte (s.draws + 1)) (s.draws + 2) := by
  cases ho : s.busOwned <;> simp [State.startTransfer, State.cmd, started, commanded, wireOf, active_eq hq, ho]

/-- Settles O40: the micro-step is the driver's poll, which starts a waiting request when the bus is idle. -/
theorem engineBusPollStep : Obligations.EngineBusPollStep := by
  unfold Obligations.EngineBusPollStep
  refine fun s d h => ⟨fun q hidle hq hh => ?_, fun hn => ?_⟩
  · have hq' : s.drawn.queue[s.drawn.rp]? = some q := by simpa using hq
    have hwait : s.drawn.busState = .idle ∧ s.drawn.active.handler ≠ 0#8 := by simp [hidle, active_eq hq, hh]
    rw [step_of_engineTurn h, microStep, engineBusPoll, busPoll_waiting hwait, startTransfer_started hq']
    exact ⟨_, _, _, rfl⟩
  · have hnone : ¬ (s.drawn.busState = .idle ∧ s.drawn.active.handler ≠ 0#8) := by
      rintro ⟨hidle, hocc⟩
      obtain hbusy | ⟨q, hq, hfree⟩ := hn
      · exact hbusy (by simpa using hidle)
      · exact hocc (by simpa [active_eq hq] using hfree)
    rw [step_of_engineTurn h, microStep, engineBusPoll, busPoll_not_waiting hnone]

/-- Settles O44: the phase names no micro-step, or the unit is halted. -/
theorem engineHasNoStepWhileWaiting : Obligations.EngineHasNoStepWhileWaiting := by
  unfold Obligations.EngineHasNoStepWhileWaiting
  refine fun s d => ⟨?_, fun hf ht hs hi => ?_⟩
  · rintro (h | h) <;> exact step_of_engineTurn h
  · have hirq : ¬ (s.iFlag = true ∧ s.anyIrq = true) := by
      rintro ⟨hi1, hany⟩
      obtain hi | ⟨h1, h2, h3⟩ := hi
      · simp [hi] at hi1
      · simp [State.anyIrq, h1, h2, h3] at hany
    simp [step, hf, ht, turnStep, unitStep, hirq, hs]

/-- A step of the program `p` past its last word returns from the task handler, with `I = 1` (R166). -/
theorem programStep_return {p : Program} {s : State} {i : Nat} (hc : InCtx (.taskCb i) s) (hw : p.words = [])
    (hr : p.returns = true) (hi : s.iFlag = true) : programStep p s = .next (taskReturn i p.delay s) := by
  obtain ⟨rest, hctx⟩ := inCtx_cons hc
  simp [programStep, taskReturns, hw, hr, hctx, hi]

theorem step_of_taskReturn {s : State} {d : UnitDraw} {r : Ticks} {i : Nat} (h : TaskReturn s d r)
    (hc : InCtx (.taskCb i) s) (hi : s.iFlag = true) : step s = .next (taskReturn i r s.drawn) := by
  obtain ⟨p, hu, hrun, hw, hr, rfl⟩ := h
  rw [step_of_software hu hc (.inr (.inl ⟨i, rfl⟩)), softwareStep_of_runs hc ((runsCode_task hrun.1 d p).2 hrun)]
  exact programStep_return (by simpa [InCtx] using hc) hw hr (by simpa using hi)

/-- Settles O38: the return's step, with the slot's delay set in place. -/
theorem taskReturnReschedules : Obligations.TaskReturnReschedules := by
  unfold Obligations.TaskReturnReschedules
  intro s d r i rest slot h hctx hi hslot
  refine ⟨s.nextTicks + s.tickDelta, BitVec.toNat_add .., ?_⟩
  rw [step_of_taskReturn h (by rw [InCtx, hctx]; rfl) hi]
  simp [taskReturn, hctx, modify_eq_set hslot]

end Sys2Proof.Machine
end

section
/-! A whole pass (42_scheduler.md R163, R170) and a whole tick interrupt (R147, 60_exceptions.md R293, R294, R296): runs of
several steps of the execution unit. -/

namespace Sys2Proof.Machine

theorem run_succ {s t : State} (h : step s = .next t) (n : Nat) : core.run (n + 1) s = core.run n t := by
  have hc : core.step s = .next t := h
  simp only [Host.Core.run, hc]

-- The pass

/-- What a pass of `ticks` does to a slot that does not expire (R163): a free slot is skipped. -/
def passSlot (ticks : Ticks) (slot : TaskSlot) : TaskSlot :=
  if slot.delay = 0#16 then slot else { slot with delay := slot.delay - ticks }

theorem engineScan_passSlot {s : State} {slot : TaskSlot} (hslot : s.tasks[s.cursor]? = some slot)
    (hd : slot.delay = 0#16 ∨ s.roundTicks.toNat < slot.delay.toNat) :
    engineScan s =
      { s with tasks := s.tasks.set s.cursor (passSlot s.roundTicks slot), cursor := s.cursor + 1 } := by
  by_cases hz : slot.delay = 0#16
  · obtain ⟨hlt, rfl⟩ := List.getElem?_eq_some_iff.1 hslot
    rw [engineScan_free hslot hz, passSlot, if_pos hz, List.set_getElem_self]
  · rw [engineScan_reduced hslot (BitVec.lt_def.2 (hd.resolve_left hz)), passSlot, if_neg hz]

/-- The state in a pass with the slots `done` examined and the slots `todo` to come. -/
def inPass (s : State) (done todo : List TaskSlot) (script : List Turn) : State :=
  { s with tasks := done ++ todo, cursor := done.length, script := script }

/-- One step of a pass moves one slot over. -/
theorem step_inPass {s : State} {d : UnitDraw} {done todo : List TaskSlot} {slot : TaskSlot} {script : List Turn}
    (h : EngineTurn (inPass s done (slot :: todo) (.execUnit d :: script)) d .scan)
    (hd : slot.delay = 0#16 ∨ s.roundTicks.toNat < slot.delay.toNat) :
    step (inPass s done (slot :: todo) (.execUnit d :: script)) =
      .next (inPass s (done ++ [passSlot s.roundTicks slot]) todo script) := by
  have hdrawn : (inPass s done (slot :: todo) (.execUnit d :: script)).drawn = inPass s done (slot :: todo) script := rfl
  have hslot : (inPass s done (slot :: todo) script).tasks[(inPass s done (slot :: todo) script).cursor]? = some slot := by
    simp [inPass]
  rw [step_of_engineTurn h, microStep, hdrawn, engineScan_passSlot hslot hd]
  simp [inPass]

/-- The rest of a pass, by induction on the slots to come. -/
theorem run_inPass {s : State} {d : UnitDraw} (rest : List Turn)
    (h : ∀ done todo script, EngineTurn (inPass s done todo (.execUnit d :: script)) d .scan)
    (todo : List TaskSlot) (hd : ∀ slot ∈ todo, slot.delay = 0#16 ∨ s.roundTicks.toNat < slot.delay.toNat)
    (done : List TaskSlot) :
    core.run todo.length (inPass s done todo (List.replicate todo.length (.execUnit d) ++ rest)) =
      .next (inPass s (done ++ todo.map (passSlot s.roundTicks)) [] rest) := by
  induction todo generalizing done with
  | nil => simp [Host.Core.run]
  | cons slot todo ih =>
    obtain ⟨hslot, htodo⟩ := List.forall_mem_cons.1 hd
    rw [List.length_cons, List.replicate_succ, List.cons_append, run_succ (step_inPass (h ..) hslot), ih htodo]
    simp

/-- Settles O45, by induction on the slots to come: each step of the pass examines one. -/
theorem scanPassReducesEveryTask : Obligations.ScanPassReducesEveryTask := by
  unfold Obligations.ScanPassReducesEveryTask
  intro s d rest hf hs hi hc hrun hp hcur hd hscript
  have hturn (done todo script) : EngineTurn (inPass s done todo (.execUnit d :: script)) d .scan :=
    ⟨⟨hf, rfl, hs, hi⟩, hc, hrun, hp⟩
  have hstart : s = inPass s [] s.tasks (List.replicate s.tasks.length (.execUnit d) ++ rest) := by
    rw [← hscript, inPass, List.nil_append, List.length_nil, ← hcur]
  have hpass := run_inPass rest hturn s.tasks hd []
  rw [← hstart] at hpass
  rw [hpass, inPass, List.append_nil, List.nil_append, List.length_map]
  rfl

-- The tick interrupt

theorem pickIrq_preferred {s : State} {x : IrqSource} (h : s.irq x = true) : s.pickIrq x = x := if_pos h

theorem anyIrq_of_irq {s : State} {x : IrqSource} (h : s.irq x = true) : s.anyIrq = true := by
  cases x <;> rw [State.irq] at h <;> simp [State.anyIrq, h]

/-- With `I = 1` the pending source that `IRQ_ORDER` prefers is taken (60_exceptions.md R292). -/
theorem step_of_entry {s : State} {d : UnitDraw} (hf : s.fault = 0#8) (ht : s.nextTurn = .execUnit d)
    (hi : s.iFlag = true) (hx : s.irq d.irq = true) : step s = .next (interruptEntry d.irq s.drawn) := by
  simp [step, hf, ht, turnStep, unitStep, hi, anyIrq_of_irq hx, pickIrq_preferred hx]

theorem bodyStep_exit {s : State} (hb : s.isrBody = []) : bodyStep s = .next (interruptExit s) := by
  simp [bodyStep, hb]

/-- The tick interrupt entered from `s`. -/
def tickTaken (s : State) (script : List Turn) : State := interruptEntry .tick { s with script := script }

/-- The tick interrupt entered from `s`, with its one `TICK` run. -/
def tickServed (s : State) (script : List Turn) : State := effectTick { tickTaken s script with isrBody := [] }

theorem step_tickTaken {s : State} (hf : s.fault = 0#8) (d : UnitDraw) (script : List Turn) :
    step (tickTaken s (.execUnit d :: script)) = .next (tickServed s script) := by
  have hissue : Issues (tickTaken s (.execUnit d :: script)) d tickWord { tickTaken s script with isrBody := [] } :=
    ⟨⟨hf, rfl, rfl, .inl rfl⟩, .inr ⟨[], .inl rfl, rfl, rfl⟩⟩
  have hdecode : decode tickWord = .ok .tick := decode_encode .tick
  rw [step_of_issues hissue, runWord_of_decode hdecode]
  exact exec_allowed ((mayIssue_tick { tickTaken s script with isrBody := [] }).2 rfl)

theorem step_tickServed {s : State} (hf : s.fault = 0#8) (d : UnitDraw) (script : List Turn) :
    step (tickServed s (.execUnit d :: script)) = .next (interruptExit (tickServed s script)) := by
  have hturn : UnitTurn (tickServed s (.execUnit d :: script)) d := ⟨hf, rfl, rfl, .inl rfl⟩
  exact (step_of_isr (c := .isrTick) hturn rfl rfl).trans (bodyStep_exit rfl)

/-- Settles O33: entry, the body's one `TICK`, and exit, which restores the context and enables interrupts. -/
theorem tickInterruptResumesContext : Obligations.TickInterruptResumesContext := by
  unfold Obligations.TickInterruptResumesContext
  intro s d1 d2 d3 rest hf hi hx hd hscript
  obtain ⟨hturn, hdrawn⟩ := nextTurn_of_script hscript
  have hentry : step s = .next (tickTaken s (.execUnit d2 :: .execUnit d3 :: rest)) := by
    rw [step_of_entry hf hturn hi (by rwa [hd]), hd, hdrawn, tickTaken]
  rw [run_succ hentry, run_succ (step_tickTaken hf d2 _), run_succ (step_tickServed hf d3 rest), hi]
  rfl

end Sys2Proof.Machine
end

section
/-! Tick conservation (42_scheduler.md R147, R162, R166, R167, R170): what every kind of step does to the four tick
registers. -/

namespace Sys2Proof.Machine

/-- The tick registers are the same in `s` and `t`. -/
structure SameTicks (s t : State) : Prop where
  tickCount : t.tickCount = s.tickCount
  tickDelta : t.tickDelta = s.tickDelta
  roundTicks : t.roundTicks = s.roundTicks
  nextTicks : t.nextTicks = s.nextTicks

/-- Every tick counted between `s` and `t` is in `TICK_DELTA` or `NEXT_TICKS`, and none leaves them. -/
structure TicksKept (s t : State) : Prop where
  waiting : t.tickDelta + t.nextTicks = s.tickDelta + s.nextTicks + (t.tickCount - s.tickCount).setWidth 16
  roundTicks : t.roundTicks = s.roundTicks

/-- `DRAIN` or `PASS_END` moves waiting ticks into the round (R162, R167). -/
inductive TicksTaken (s t : State) : Prop
  | drain (hp : s.phase = .drain) (hn : s.nextTicks = 0#16) (hr : t.roundTicks = s.tickDelta)
      (hd : t.tickDelta = 0#16) (hn' : t.nextTicks = 0#16) (hc : t.tickCount = s.tickCount)
  | passEnd (hp : s.phase = .passEnd) (hr : t.roundTicks = s.nextTicks) (hn : t.nextTicks = 0#16)
      (hd : t.tickDelta = s.tickDelta) (hc : t.tickCount = s.tickCount)

/-- Ticks moved from `TICK_DELTA` to `NEXT_TICKS` stay waiting. -/
theorem TicksKept.of_sum {s t : State} (hc : t.tickCount = s.tickCount)
    (hsum : t.tickDelta + t.nextTicks = s.tickDelta + s.nextTicks) (hr : t.roundTicks = s.roundTicks) : TicksKept s t :=
  ⟨by simp [hsum, hc], hr⟩

theorem SameTicks.kept {s t : State} (h : SameTicks s t) : TicksKept s t :=
  .of_sum h.tickCount (by rw [h.tickDelta, h.nextTicks]) h.roundTicks

theorem SameTicks.trans_kept {s t u : State} (hst : SameTicks s t) (htu : TicksKept t u) : TicksKept s u := by
  obtain ⟨hw, hr⟩ := htu
  rw [hst.tickDelta, hst.nextTicks, hst.tickCount] at hw
  exact ⟨hw, hr.trans hst.roundTicks⟩

theorem DriverFrame.sameTicks {s t : State} (h : DriverFrame s t) : SameTicks s t :=
  ⟨h.tickCount, h.tickDelta, h.roundTicks, h.nextTicks⟩

theorem drawn_sameTicks (s : State) : SameTicks s s.drawn := by constructor <;> simp

theorem Decodes.sameTicks {s s1 : State} {w : Word} (h : Decodes s w s1) : SameTicks s s1 := by
  cases h <;> constructor <;> simp

theorem controllerReports_sameTicks (ev : BusEvent) (d : Byte) (s : State) : SameTicks s (controllerReports ev d s) := by
  unfold controllerReports
  split <;> constructor <;> rfl

/-- `TICK` counts one tick and adds it to those waiting (R147). -/
theorem effectTick_kept (s : State) : TicksKept s (effectTick s) := by
  have hcount : s.tickCount + 1 - s.tickCount = 1#32 := by bv_omega
  have hsum : s.tickDelta + 1 + s.nextTicks = s.tickDelta + s.nextTicks + 1#16 := by ac_rfl
  exact ⟨by simp only [effectTick, State.returns, hcount, hsum]; rfl, rfl⟩

/-- `TICK` is the one operation that writes a tick register. -/
theorem exec_ticksKept {i : Instr} {s t : State} (h : exec i s = .next t) : TicksKept s t := by
  have hf := exec_frame h
  by_cases hi : i = .tick
  · subst hi
    rw [exec_eq] at h
    cases h
    split
    · exact effectTick_kept s
    · exact SameTicks.kept (by constructor <;> rfl)
  · exact SameTicks.kept ⟨hf.tickCount hi, hf.tickDelta hi, hf.roundTicks, hf.nextTicks⟩

theorem engineDrain_ticks {s : State} (hp : s.phase = .drain) (hn : s.nextTicks = 0#16) :
    TicksKept s (engineDrain s) ∨ TicksTaken s (engineDrain s) := by
  by_cases hd : s.tickDelta = 0#16
  · rw [engineDrain_zero hd]
    exact .inl (SameTicks.kept (by constructor <;> rfl))
  · rw [engineDrain_nonzero hd]
    exact .inr (.drain hp hn rfl rfl rfl rfl)

theorem engineScan_sameTicks (s : State) : SameTicks s (engineScan s) := by
  unfold engineScan
  split
  · constructor <;> rfl
  split
  · constructor <;> rfl
  split <;> constructor <;> rfl

theorem enginePassEnd_ticks {s : State} (hp : s.phase = .passEnd) :
    TicksKept s (enginePassEnd s) ∨ TicksTaken s (enginePassEnd s) := by
  by_cases hn : s.nextTicks = 0#16
  · rw [enginePassEnd_zero hn]
    exact .inl (SameTicks.kept (by constructor <;> rfl))
  · rw [enginePassEnd_nonzero hn]
    exact .inr (.passEnd hp rfl rfl rfl rfl)

theorem engineSleepCheck_sameTicks (gate : Bool) (s : State) : SameTicks s (engineSleepCheck gate s) := by
  unfold engineSleepCheck
  dsimp only
  split <;> constructor <;> rfl

/-- The engine's step keeps the ticks waiting, or takes them into a pass; that `DRAIN` finds no tick in `NEXT_TICKS` is the
invariant's. -/
theorem engineStep_ticks (gate : Bool) {s : State} (hn : s.phase = .drain → s.nextTicks = 0#16) :
    TicksKept s (engineStep gate s) ∨ TicksTaken s (engineStep gate s) := by
  cases hr : s.runActive
  · rw [engineStep, hr]
    exact .inl (SameTicks.kept (by constructor <;> rfl))
  rw [engineStep_running hr]
  cases hp : s.phase with
  | clear | inHandler | halted => exact .inl (SameTicks.kept (by constructor <;> rfl))
  | drain => exact engineDrain_ticks hp (hn hp)
  | scan => exact .inl (engineScan_sameTicks s).kept
  | passEnd => exact enginePassEnd_ticks hp
  | busPoll => exact .inl ((busPoll_frame s).sameTicks.trans_kept (SameTicks.kept (by constructor <;> rfl)))
  | sleepCheck => exact .inl (engineSleepCheck_sameTicks gate s).kept

/-- The handler's return drains the ticks of its run into `NEXT_TICKS` (R166). -/
theorem taskReturn_kept (i : Nat) (r : Ticks) (s : State) : TicksKept s (taskReturn i r s) := by
  refine .of_sum rfl ?_ rfl
  simp only [taskReturn, BitVec.zero_add, BitVec.add_comm]

/-- Every step keeps the ticks waiting but the engine's, which may take them. -/
theorem StepCase.ticks {s t : State} (h : StepCase s t) :
    TicksKept s t ∨ (InCtx .poll s ∧ ∃ gate, t = engineStep gate s.drawn) := by
  have hdr := drawn_sameTicks s
  cases h with
  | timer | otherDevice | exit => exact .inl (hdr.trans_kept (SameTicks.kept (by constructor <;> rfl)))
  | controller ev d => exact .inl (hdr.trans_kept (controllerReports_sameTicks ev d _).kept)
  | noStep => exact .inl hdr.kept
  | hang p => exact .inl (SameTicks.kept (by constructor <;> simp))
  | entry x => exact .inl (SameTicks.kept (by constructor <;> simp))
  | engine d ht hs hc => exact .inr ⟨hc, d.gate, rfl⟩
  | badWord s1 w hd => exact .inl (hd.sameTicks.trans_kept (SameTicks.kept (by constructor <;> rfl)))
  | word s1 w hd hs i hw t ht => exact .inl (hd.sameTicks.trans_kept (exec_ticksKept ht))
  | taskReturn i r => exact .inl (hdr.trans_kept (taskReturn_kept i r _))
  | xferReturn st r =>
    have hpop : SameTicks s s.drawn.pop := by constructor <;> simp
    exact .inl (hpop.trans_kept (afterHandler_frame _ st r).sameTicks.kept)

/-- Settles O54, by the cases of a step: only the engine takes waiting ticks, and the invariant leaves none in `NEXT_TICKS`
for `DRAIN` to overwrite. -/
theorem ticksAreNeitherLostNorDoubled : Obligations.TicksAreNeitherLostNorDoubled := by
  unfold Obligations.TicksAreNeitherLostNorDoubled
  intro s t hinv hstep
  obtain ⟨hw, hr⟩ | ⟨hc, gate, rfl⟩ := (step_cases hstep).2.ticks
  · exact .inl ⟨hw, hr⟩
  have hn (hp : s.drawn.phase = .drain) : s.drawn.nextTicks = 0#16 := by
    rw [State.drawn_phase] at hp
    rw [State.drawn_nextTicks, nextTicks_settled hinv (legalStack_poll hinv.stack hc) (by simp [hp]) (by simp [hp])]
  obtain hk | ⟨hp, hn, hr, hd, hn', hcount⟩ | ⟨hp, hr, hn, hd, hcount⟩ := engineStep_ticks gate hn
  · obtain ⟨hw, hr⟩ := (drawn_sameTicks s).trans_kept hk
    exact .inl ⟨hw, hr⟩
  · exact .inr (.inl ⟨hc, by simpa using hp, by simpa using hn, by simpa using hr, hd, hn', by simpa using hcount⟩)
  · exact .inr (.inr ⟨hc, by simpa using hp, by simpa using hr, hn, by simpa using hd, by simpa using hcount⟩)

end Sys2Proof.Machine
end

section
/-! The request operations (43_i2c_requests.md R190 to R200): each has its effect where the matrix allows it, and each of
its checks writes its own fault code and nothing else. -/

namespace Sys2Proof.Machine

-- I2C_REQ and its search for a free slot

theorem FreeSlot.handler_eq_zero {s : State} {j : Nat} (h : FreeSlot s j) :
    (s.queue.getD j Request.free).handler = 0#8 := by
  obtain ⟨q, hq, hfree⟩ := h
  simpa [List.getD, hq] using hfree

theorem Occupied.handler_ne_zero {s : State} {j : Nat} (h : Occupied s j) :
    (s.queue.getD j Request.free).handler ≠ 0#8 := by
  obtain ⟨q, hq, hocc⟩ := h
  simpa [List.getD, hq] using hocc

theorem Occupied.not_freeSlot {s : State} {j : Nat} (h : Occupied s j) : ¬ FreeSlot s j :=
  fun hfree => h.handler_ne_zero hfree.handler_eq_zero

/-- The scan stops at the first free slot (R190). -/
theorem firstFreeRequest_of_first {queue : List Request} {rp k : Nat} (hk : k < queue.length)
    (hfree : (queue.getD ((rp + k) % queue.length) Request.free).handler = 0#8)
    (hocc : ∀ i, i < k → (queue.getD ((rp + i) % queue.length) Request.free).handler ≠ 0#8) :
    firstFreeRequest queue rp = some ((rp + k) % queue.length) := by
  simp only [firstFreeRequest, List.find?_map, Option.map_eq_some_iff, List.find?_range_eq_some]
  exact ⟨k, ⟨by simpa using hfree, by simpa using hk, fun i hi => by simpa using hocc i hi⟩, rfl⟩

theorem firstFreeRequest_of_full {queue : List Request} {rp : Nat}
    (h : ∀ i, i < queue.length → (queue.getD ((rp + i) % queue.length) Request.free).handler ≠ 0#8) :
    firstFreeRequest queue rp = none := by
  simpa [firstFreeRequest] using h

/-- What stands at any place of a ring of occupied slots is a request. -/
theorem getD_occupied {queue : List Request} (h : ∀ q ∈ queue, q.handler ≠ 0#8) {j : Nat} (hj : j < queue.length) :
    (queue.getD j Request.free).handler ≠ 0#8 := by
  rw [List.getD_eq_getElem queue Request.free hj]
  exact h _ (List.getElem_mem hj)

section i2cReq
variable {addr : SlaveAddr} {rw : Bool} {h : Byte} {s : State}

theorem effectI2cReq_nullHandler (hh : h = 0#8) : effectI2cReq addr rw h s = s.raise .nullHandler := if_pos hh

theorem effectI2cReq_free {j : Nat} (hh : h ≠ 0#8) (hj : firstFreeRequest s.queue s.rp = some j) :
    effectI2cReq addr rw h s = { s with queue := s.queue.set j ⟨addr, !rw, h⟩, result := .accepted true } := by
  simp [effectI2cReq, hh, hj, State.returns]

theorem effectI2cReq_full (hh : h ≠ 0#8) (hj : firstFreeRequest s.queue s.rp = none) :
    effectI2cReq addr rw h s = { s with result := .accepted false } := by
  simp [effectI2cReq, hh, hj, State.returns]

end i2cReq

/-- Settles O11: the operation's check of the handler, then the scan from `RP`. -/
theorem i2cReqTakesFirstFreeSlotFromRp : Obligations.I2cReqTakesFirstFreeSlotFromRp := by
  unfold Obligations.I2cReqTakesFirstFreeSlotFromRp
  refine fun addr rw h => ⟨by cases rw <;> rfl, fun s => ?_⟩
  have hm : InCtx .boot s ∨ InTask s ∨ InXfer s → mayIssue (.i2cReq addr rw h) s = true :=
    (mayIssue_i2cReq s addr rw h).2
  refine ⟨fun hp hh => ⟨fun k hk hfree hocc => ?_, fun hfull => ?_⟩, fun hp hf hh => ?_, fun hp hf => ?_⟩
  · have hfirst := firstFreeRequest_of_first hk hfree.handler_eq_zero fun i hi => (hocc i hi).handler_ne_zero
    rw [exec_allowed (hm hp), effectOf, effectI2cReq_free hh hfirst]
  · have hnone : firstFreeRequest s.queue s.rp = none :=
      firstFreeRequest_of_full fun i hi => getD_occupied hfull (Nat.mod_lt _ (Nat.zero_lt_of_lt hi))
    rw [exec_allowed (hm hp), effectOf, effectI2cReq_full hh hnone]
  · exact faultsOnly_of_raise (hm hp) hf (effectI2cReq_nullHandler hh)
  · exact faultsOnly_of_denied (mt (mayIssue_i2cReq s addr rw h).1 hp) hf

-- The other operations

theorem effectI2cReqi_nullHandler {addr : SlaveAddr} {rw : Bool} {h : Byte} {s : State} (hh : h = 0#8) :
    effectI2cReqi addr rw h s = s.raise .nullHandler := if_pos hh

theorem effectI2cReqi_handler {addr : SlaveAddr} {rw : Bool} {h : Byte} {s : State} (hh : h ≠ 0#8) :
    effectI2cReqi addr rw h s =
      { s with queue := s.queue.set s.rp ⟨addr, !rw, h⟩, instantPend := true, result := .nothing } := if_neg hh

/-- Settles O12: the matrix allows `I2C_REQI` to the transfer handlers alone, and its one check is of the handler. -/
theorem i2cReqiOverwritesActiveSlot : Obligations.I2cReqiOverwritesActiveSlot := by
  unfold Obligations.I2cReqiOverwritesActiveSlot
  refine fun addr rw h => ⟨by cases rw <;> rfl, fun s => ?_⟩
  have hm : InXfer s → mayIssue (.i2cReqi addr rw h) s = true := (mayIssue_i2cReqi s addr rw h).2
  refine ⟨fun hp hh => ?_, fun hp hf hh => ?_, fun hp hf => ?_⟩
  · rw [exec_allowed (hm hp), effectOf, effectI2cReqi_handler hh]
  · exact faultsOnly_of_raise (hm hp) hf (effectI2cReqi_nullHandler hh)
  · exact faultsOnly_of_denied (mt (mayIssue_i2cReqi s addr rw h).1 hp) hf

/-- Settles O13, by the row of `I2C_NACK` in the permission matrix. -/
theorem i2cNackMarksNextByte : Obligations.I2cNackMarksNextByte := by
  unfold Obligations.I2cNackMarksNextByte
  refine ⟨rfl, fun s => ⟨fun hc => exec_allowed ((mayIssue_i2cNack s).2 hc), fun hc hf => ?_⟩⟩
  exact faultsOnly_of_denied (mt (mayIssue_i2cNack s).1 hc) hf

/-- Settles O14, by the row of `I2C_TX` in the permission matrix. -/
theorem i2cTxSuppliesByte : Obligations.I2cTxSuppliesByte := by
  unfold Obligations.I2cTxSuppliesByte
  refine fun data => ⟨rfl, fun s => ⟨fun hc => exec_allowed ((mayIssue_i2cTx s data).2 hc), fun hc hf => ?_⟩⟩
  exact faultsOnly_of_denied (mt (mayIssue_i2cTx s data).1 hc) hf

/-- Settles O15: the poll starts the request at `RP` when the driver is idle and there is one, and is nothing otherwise. -/
theorem i2cPollStartsWaitingRequest : Obligations.I2cPollStartsWaitingRequest := by
  unfold Obligations.I2cPollStartsWaitingRequest
  refine ⟨rfl, fun s => ⟨fun hc => ⟨fun q hidle hq hocc => ?_, fun hn => ?_⟩, fun hc hf => ?_⟩⟩
  · have hwait : s.busState = .idle ∧ s.active.handler ≠ 0#8 := ⟨hidle, by rwa [active_eq hq]⟩
    rw [exec_allowed ((mayIssue_i2cPoll s).2 hc), effectOf, effectI2cPoll, busPoll_waiting hwait,
      startTransfer_started hq]
    exact ⟨_, _, _, rfl⟩
  · have hnone : ¬ (s.busState = .idle ∧ s.active.handler ≠ 0#8) := fun ⟨hidle, hocc⟩ =>
      hn.elim (fun hbusy => hbusy hidle) fun hfree => hocc hfree.handler_eq_zero
    rw [exec_allowed ((mayIssue_i2cPoll s).2 hc), effectOf, effectI2cPoll, busPoll_not_waiting hnone]
    rfl
  · exact faultsOnly_of_denied (mt (mayIssue_i2cPoll s).1 hc) hf

end Sys2Proof.Machine
end

section
/-! The order of the requests (43_i2c_requests.md R190, R191, R200, 44_i2c_fsm.md R226): what a step does to the ring and to
the wire's START symbols. -/

namespace Sys2Proof.Machine

/-- No START is commanded between `s` and `t`: what goes on the wire is another symbol (60_exceptions.md R302). -/
def NoStart (s t : State) : Prop := ∃ w, t.wire = s.wire ++ w ∧ WireSym.s ∉ w ∧ WireSym.sr ∉ w

theorem BusQuiet.noStart {s t : State} (h : BusQuiet s t) : NoStart s t := ⟨[], by simp [h.wire], by simp, by simp⟩

theorem noStart_of_cmd {s t : State} {c : Cmd} (hc : c ≠ .start) (hw : t.wire = s.wire ++ wireOf s.busOwned c) :
    NoStart s t := by
  refine ⟨_, hw, ?_⟩
  cases c with
  | start => exact absurd rfl hc
  | stop => cases s.busOwned <;> simp [wireOf]
  | send _ | recvAck | recvNack => simp [wireOf]

theorem NoStart.not_start {s t : State} (h : NoStart s t) {x : WireSym} (hx : x = .s ∨ x = .sr) :
    t.wire ≠ s.wire ++ [x] := by
  obtain ⟨w, hw, hs, hsr⟩ := h
  intro he
  obtain rfl : w = [x] := List.append_cancel_left (hw.symm.trans he)
  obtain rfl | rfl := hx
  · simp at hs
  · simp at hsr

/-- The four things a step may do to the ring; `closes` is whether it may end a transfer. -/
inductive RingStep (closes : Prop) (s t : State) : Prop
  | kept (hq : t.queue = s.queue) (hr : t.rp = s.rp) (hn : NoStart s t)
  | written (j : Nat) (q : Request) (hj : j = s.rp ∨ FreeSlot s j) (hh : q.handler ≠ 0#8)
      (hq : t.queue = s.queue.set j q) (hr : t.rp = s.rp) (hn : NoStart s t)
  | started (ha : s.active.handler ≠ 0#8) (hq : t.queue = s.queue) (hr : t.rp = s.rp)
      (hb : t.busState = if s.active.tx then .slaW else .slaR)
  | closed (hc : closes) (hp : s.instantPend = false) (hq : t.queue = s.queue.modify s.rp ({ · with handler := 0#8 }))
      (hr : t.rp = (s.rp + 1) % s.queue.length) (hb : t.busState = .idle) (hn : NoStart s t)

/-- A change that leaves the driver and the wire alone. -/
theorem RingStep.of_quiet {closes : Prop} {s t : State} (hq : t.queue = s.queue) (hr : t.rp = s.rp) (hb : BusQuiet s t) :
    RingStep closes s t := .kept hq hr hb.noStart

/-- A step that follows a change which leaves the driver and the wire alone. -/
theorem RingStep.after {closes closes' : Prop} {s s1 t : State} (h : RingStep closes s1 t) (d : SameDriver s s1)
    (hb : BusQuiet s s1) (hi : closes → closes') : RingStep closes' s t := by
  have hact : s1.active = s.active := by simp only [State.active, d.queue, d.rp]
  have hstart (hn : NoStart s1 t) : NoStart s t := by simpa only [NoStart, hb.wire] using hn
  cases h with
  | kept hq hr hn => exact .kept (hq.trans d.queue) (hr.trans d.rp) (hstart hn)
  | written j q hj hh hq hr hn =>
    refine .written j q (hj.imp (·.trans d.rp) ?_) hh (hq.trans (by rw [d.queue])) (hr.trans d.rp) (hstart hn)
    simp only [FreeSlot, d.queue, imp_self]
  | started ha hq hr hbs => exact .started (hact ▸ ha) (hq.trans d.queue) (hr.trans d.rp) (hact ▸ hbs)
  | closed hc hp hq hr hbs hn =>
    rw [d.queue, d.rp] at hq hr
    exact .closed (hi hc) (d.instantPend.symm.trans hp) hq hr hbs (hstart hn)

/-- A step followed by a change that leaves the driver and the wire alone. -/
theorem RingStep.before {closes : Prop} {s t u : State} (h : RingStep closes s t) (hq' : u.queue = t.queue)
    (hr' : u.rp = t.rp) (hb : BusQuiet t u) : RingStep closes s u := by
  have hstart (hn : NoStart s t) : NoStart s u := by simpa only [NoStart, hb.wire] using hn
  cases h with
  | kept hq hr hn => exact .kept (hq'.trans hq) (hr'.trans hr) (hstart hn)
  | written j q hj hh hq hr hn => exact .written j q hj hh (hq'.trans hq) (hr'.trans hr) (hstart hn)
  | started ha hq hr hbs => exact .started ha (hq'.trans hq) (hr'.trans hr) (hb.busState.trans hbs)
  | closed hc hp hq hr hbs hn => exact .closed hc hp (hq'.trans hq) (hr'.trans hr) (hb.busState.trans hbs) (hstart hn)

-- The driver

theorem startTransfer_ring {closes : Prop} {s : State} (ha : s.active.handler ≠ 0#8) :
    RingStep closes s s.startTransfer := .started ha rfl rfl rfl

/-- `close()` starts the chained request in the slot at `RP`, or frees that slot and passes it (44_i2c_fsm.md R226). -/
theorem closeTransfer_ring {s : State} (ha : s.active.handler ≠ 0#8) : RingStep True s s.closeTransfer := by
  unfold State.closeTransfer
  split
  · exact .started ha rfl rfl rfl
  · rename_i hp
    exact .closed trivial (by simpa using hp) rfl rfl rfl (noStart_of_cmd (c := .stop) (by simp) rfl)

theorem busPoll_ring {closes : Prop} (s : State) : RingStep closes s s.busPoll := by
  by_cases h : s.busState = .idle ∧ s.active.handler ≠ 0#8
  · rw [busPoll_waiting h]
    exact startTransfer_ring h.2
  · rw [busPoll_not_waiting h]
    exact .of_quiet rfl rfl ⟨rfl, rfl⟩

/-- The handler's answer sends or receives a byte, or closes the transfer (44_i2c_fsm.md R223, R225, R227). -/
theorem afterHandler_ring {s : State} (ha : s.active.handler ≠ 0#8) (st : Status) (r : Bool) :
    RingStep True s (s.afterHandler st r) := by
  have hw : RingStep True s (s.writeAnswer r) := by
    unfold State.writeAnswer
    split
    · exact .kept rfl rfl (noStart_of_cmd (c := .send s.txData) (by simp) rfl)
    · exact closeTransfer_ring ha
  have hr : RingStep True s (s.readAnswer r) := by
    unfold State.readAnswer
    split
    · exact .kept rfl rfl (noStart_of_cmd (c := if s.nackReq then .recvNack else .recvAck) (by split <;> simp) rfl)
    · exact .kept rfl rfl (noStart_of_cmd (c := .recvNack) (by simp) rfl)
  cases st with
  | transmitReady | byteTransmitted => exact hw
  | receiveReady | byteReceived => exact hr
  | transmitFailed | receiveFailed | nack | lastByteReceived => exact closeTransfer_ring ha

theorem busRow_ring {s : State} (ha : s.busState ≠ .idle → s.active.handler ≠ 0#8) (ev : BusEvent) (b : Byte) :
    RingStep True s (s.busRow ev b) := by
  obtain ⟨-, h⟩ | ⟨-, next, -, h⟩ | ⟨hb, h⟩ | ⟨-, st, d, h⟩ | ⟨-, st, d, h⟩ := busRow_cases s ev b <;> rw [h]
  · exact .of_quiet rfl rfl ⟨rfl, rfl⟩
  · exact .kept rfl rfl (noStart_of_cmd (c := .send s.active.sla) (by simp) rfl)
  · exact closeTransfer_ring (ha (by simp [hb]))
  · exact .of_quiet rfl rfl ⟨rfl, rfl⟩
  · exact .of_quiet rfl rfl ⟨rfl, rfl⟩

-- The operations

theorem effectI2cEvent_ring {s : State} (ha : s.busState ≠ .idle → s.active.handler ≠ 0#8) (code data : Byte) :
    RingStep True s (effectI2cEvent code data s) := by
  unfold effectI2cEvent
  split
  · exact .of_quiet rfl rfl ⟨rfl, rfl⟩
  · have hrow := busRow_ring (s := { s with pollPending := true }) ha (s.params.statusMap.event code) data
    have hring := hrow.after (s := s) (by constructor <;> rfl) ⟨rfl, rfl⟩ id
    exact hring.before rfl rfl ⟨rfl, rfl⟩

theorem firstFreeRequest_freeSlot {s : State} {j : Nat} (h : firstFreeRequest s.queue s.rp = some j) : FreeSlot s j := by
  obtain ⟨k, hk, rfl, hfree, -⟩ := firstFreeRequest_some h
  have hlt : (s.rp + k) % s.queue.length < s.queue.length := Nat.mod_lt _ (Nat.zero_lt_of_lt hk)
  rw [List.getD_eq_getElem _ _ hlt] at hfree
  exact ⟨_, List.getElem?_eq_getElem hlt, hfree⟩

theorem effectI2cReq_ring {closes : Prop} (addr : SlaveAddr) (rw : Bool) (h : Byte) (s : State) :
    RingStep closes s (effectI2cReq addr rw h s) := by
  unfold effectI2cReq
  split
  · exact .of_quiet rfl rfl ⟨rfl, rfl⟩
  rename_i hh
  split
  · rename_i j hj
    exact .written j _ (.inr (firstFreeRequest_freeSlot hj)) hh rfl rfl (BusQuiet.noStart ⟨rfl, rfl⟩)
  · exact .of_quiet rfl rfl ⟨rfl, rfl⟩

theorem effectI2cReqi_ring {closes : Prop} (addr : SlaveAddr) (rw : Bool) (h : Byte) (s : State) :
    RingStep closes s (effectI2cReqi addr rw h s) := by
  unfold effectI2cReqi
  split
  · exact .of_quiet rfl rfl ⟨rfl, rfl⟩
  · rename_i hh
    exact .written s.rp _ (.inl rfl) hh rfl rfl (BusQuiet.noStart ⟨rfl, rfl⟩)

/-- Of the operations, `I2C_EVENT` alone may close a transfer. -/
theorem effectOf_ring {s : State} (ha : s.busState ≠ .idle → s.active.handler ≠ 0#8) (i : Instr) :
    RingStep (∃ code data, i = .i2cEvent code data) s (effectOf i s) := by
  cases i with
  | csEnter | csExit _ | wait | run | schedPoll | tick | i2cNack | i2cTx _ => exact .of_quiet rfl rfl ⟨rfl, rfl⟩
  | schedTask h delay =>
    dsimp only [effectOf, effectSchedTask]
    split
    · exact .of_quiet rfl rfl ⟨rfl, rfl⟩
    split
    · exact .of_quiet rfl rfl ⟨rfl, rfl⟩
    split <;> exact .of_quiet rfl rfl ⟨rfl, rfl⟩
  | unschedTask id =>
    dsimp only [effectOf, effectUnschedTask]
    split <;> exact .of_quiet rfl rfl ⟨rfl, rfl⟩
  | i2cReq addr rw h => exact effectI2cReq_ring addr rw h s
  | i2cReqi addr rw h => exact effectI2cReqi_ring addr rw h s
  | i2cPoll => exact (busPoll_ring s).before rfl rfl ⟨rfl, rfl⟩
  | i2cEvent code data =>
    exact (effectI2cEvent_ring ha code data).after (by constructor <;> rfl) ⟨rfl, rfl⟩ fun _ => ⟨code, data, rfl⟩

/-- An operation closes a transfer in the bus interrupt only: the matrix allows `I2C_EVENT` nowhere else
(60_exceptions.md R285). -/
theorem exec_ring {i : Instr} {s t : State} (ha : s.busState ≠ .idle → s.active.handler ≠ 0#8)
    (h : exec i s = .next t) : RingStep (InCtx .isrI2c s) s t := by
  cases hm : mayIssue i s
  · rw [exec_denied hm] at h
    cases h
    exact .of_quiet rfl rfl ⟨rfl, rfl⟩
  · rw [exec_allowed hm] at h
    cases h
    refine (effectOf_ring ha i).after (by constructor <;> rfl) ⟨rfl, rfl⟩ ?_
    rintro ⟨code, data, rfl⟩
    exact (mayIssue_i2cEvent s code data).1 hm

-- The steps

/-- Of the engine's micro-steps, `BUS_POLL` alone touches the driver (42_scheduler.md R168). -/
theorem engineStep_ring {closes : Prop} (gate : Bool) (s : State) : RingStep closes s (engineStep gate s) := by
  cases hr : s.runActive
  · rw [engineStep, hr]
    exact .of_quiet rfl rfl ⟨rfl, rfl⟩
  rw [engineStep_running hr]
  cases s.phase with
  | clear | inHandler | halted => exact .of_quiet rfl rfl ⟨rfl, rfl⟩
  | drain =>
    dsimp only [microStep, engineDrain]
    split <;> exact .of_quiet rfl rfl ⟨rfl, rfl⟩
  | scan =>
    dsimp only [microStep, engineScan]
    split
    · exact .of_quiet rfl rfl ⟨rfl, rfl⟩
    split
    · exact .of_quiet rfl rfl ⟨rfl, rfl⟩
    split <;> exact .of_quiet rfl rfl ⟨rfl, rfl⟩
  | passEnd =>
    dsimp only [microStep, enginePassEnd]
    split <;> exact .of_quiet rfl rfl ⟨rfl, rfl⟩
  | busPoll => exact (busPoll_ring s).before rfl rfl ⟨rfl, rfl⟩
  | sleepCheck =>
    dsimp only [microStep, engineSleepCheck]
    split <;> exact .of_quiet rfl rfl ⟨rfl, rfl⟩

theorem drawn_sameDriver (s : State) : SameDriver s s.drawn := by constructor <;> simp

theorem Decodes.sameDriver {s s1 : State} {w : Word} (h : Decodes s w s1) : SameDriver s s1 := by
  cases h <;> constructor <;> simp

/-- Under the invariant a step does one of the four things to the ring, and closes a transfer only in the bus interrupt. -/
theorem StepCase.ring {s t : State} (h : StepCase s t) (hinv : s.Inv) : RingStep (InCtx .isrI2c s ∨ InXfer s) s t := by
  have hdr := drawn_sameDriver s
  have hdb := drawn_busQuiet s
  cases h with
  | timer | otherDevice | exit | taskReturn => exact .of_quiet hdr.queue hdr.rp (hdb.trans ⟨rfl, rfl⟩)
  | controller ev d =>
    refine RingStep.after (closes := False) (.of_quiet ?_ ?_ (controllerReports_busQuiet ev d _)) hdr hdb False.elim <;>
      (unfold controllerReports; split <;> rfl)
  | noStep => exact .of_quiet hdr.queue hdr.rp hdb
  | hang p => exact .of_quiet (by simp) (by simp) ⟨by simp, by simp⟩
  | entry x => exact .of_quiet (by simp) (by simp) ⟨by simp, by simp⟩
  | engine d => exact (engineStep_ring d.gate _).after hdr hdb False.elim
  | badWord s1 w hd => exact .of_quiet hd.sameDriver.queue hd.sameDriver.rp (hd.busQuiet.trans ⟨rfl, rfl⟩)
  | word s1 w hd hs i hw t ht =>
    have ha := (hinv.ringInv.of_same hd.sameDriver).activeOccupied
    exact (exec_ring ha ht).after hd.sameDriver hd.busQuiet fun hc => .inl (by rwa [InCtx, hd.ctx] at hc)
  | xferReturn st r rest hc =>
    have hx : InCtx (.xferCb st) s := by simp [InCtx, hc]
    have hpop := eventTaken_pop (drawn_keepsInv hinv) (st := st) (by simp [hc])
    have ha := hpop.ring.activeOccupied hpop.busy
    exact (afterHandler_ring ha st r).after (by constructor <;> simp) (hdb.trans ⟨rfl, rfl⟩) fun _ => .inr ⟨st, hx⟩

-- What the four things leave alone

section ringStep
variable {closes : Prop} {s t : State} (h : RingStep closes s t)
include h

/-- A request that is not at `RP` stays in its slot. -/
theorem RingStep.others {j : Nat} {q : Request} (hj : j ≠ s.rp) (hq : s.queue[j]? = some q) (hocc : q.handler ≠ 0#8) :
    t.queue[j]? = some q := by
  cases h with
  | kept hqueue | started _ hqueue => rwa [hqueue]
  | written i q' hi _ hqueue =>
    have hij : i ≠ j := by
      rintro rfl
      exact hi.elim hj (Occupied.not_freeSlot ⟨q, hq, hocc⟩)
    rwa [hqueue, List.getElem?_set_ne hij]
  | closed _ _ hqueue => rwa [hqueue, List.getElem?_modify_ne _ _ hj.symm]

/-- The request at `RP` stays there, in some form, unless the transfer is closed (44_i2c_fsm.md R226). -/
theorem RingStep.served :
    (t.rp = s.rp ∧ (Occupied s s.rp → Occupied t s.rp)) ∨
    (closes ∧ s.instantPend = false ∧ t.rp = (s.rp + 1) % s.queue.length ∧ t.busState = .idle ∧
      ∀ q, s.queue[s.rp]? = some q → t.queue[s.rp]? = some { q with handler := 0#8 }) := by
  cases h with
  | kept hqueue hr | started _ hqueue hr => exact .inl ⟨hr, by simp [Occupied, hqueue]⟩
  | written i q' _ hh hqueue hr =>
    refine .inl ⟨hr, fun ⟨q, hq, hocc⟩ => ?_⟩
    have hlt : s.rp < s.queue.length := (List.getElem?_eq_some_iff.1 hq).1
    by_cases hi : i = s.rp
    · exact ⟨q', by simp [hqueue, hi, hlt], hh⟩
    · exact ⟨q, by rwa [hqueue, List.getElem?_set_ne hi], hocc⟩
  | closed hc hp hqueue hr hb =>
    exact .inr ⟨hc, hp, hr, hb, fun q hq => by simp [hqueue, hq]⟩

/-- A START is for the request at `RP` (43_i2c_requests.md R200, 44_i2c_fsm.md R226). -/
theorem RingStep.starts (hrp : s.rp < s.queue.length) {x : WireSym} (hx : x = .s ∨ x = .sr)
    (hw : t.wire = s.wire ++ [x]) :
    t.rp = s.rp ∧ ∃ q, s.queue[s.rp]? = some q ∧ q.handler ≠ 0#8 ∧ t.busState = if q.tx then .slaW else .slaR := by
  cases h with
  | kept _ _ hn | written _ _ _ _ _ _ hn | closed _ _ _ _ _ hn => exact absurd hw (hn.not_start hx)
  | started ha _ hr hb =>
    obtain ⟨q, hq⟩ : ∃ q, s.queue[s.rp]? = some q := ⟨_, List.getElem?_eq_getElem hrp⟩
    rw [active_eq hq] at ha hb
    exact ⟨hr, q, hq, ha, hb⟩

end ringStep

/-- The scan finds the slot after the run, if the run leaves one (R190, R191). -/
theorem firstFreeRequest_of_ringRun {s : State} {k : Nat} (h : s.ringRun k) (hk : k < s.queue.length) :
    firstFreeRequest s.queue s.rp = some ((s.rp + k) % s.queue.length) :=
  firstFreeRequest_of_first hk (not_not.1 (mt (h.2 k hk).1 (lt_irrefl k))) fun i hi => (h.2 i (hi.trans hk)).2 hi

theorem firstFreeRequest_of_fullRun {s : State} (h : s.ringRun s.queue.length) : firstFreeRequest s.queue s.rp = none :=
  firstFreeRequest_of_full fun i hi => (h.2 i hi).2 hi

/-- Settles O55: the scan of `I2C_REQ` finds the slot after the run, and a step does to the ring one of the four things of
`RingStep`. -/
theorem requestsAreServedInQueueOrder : Obligations.RequestsAreServedInQueueOrder := by
  unfold Obligations.RequestsAreServedInQueueOrder
  refine ⟨fun s addr rw h k hc hh hrp hrun => ?_, fun s t hinv hstep => ?_⟩
  · rw [exec_allowed ((mayIssue_i2cReq s addr rw h).2 hc), effectOf]
    refine ⟨fun hk => ?_, ?_⟩
    · have hlt : (s.rp + k) % s.queue.length < s.queue.length := Nat.mod_lt _ (Nat.zero_lt_of_lt hk)
      rw [effectI2cReq_free hh (firstFreeRequest_of_ringRun hrun hk)]
      exact ⟨_, rfl, ringRun_append hrun hk hh, rfl, by simp [hlt], fun j hj => List.getElem?_set_ne hj.symm, rfl⟩
    · rintro rfl
      rw [effectI2cReq_full hh (firstFreeRequest_of_fullRun hrun)]
  · have hring := (step_cases hstep).2.ring hinv
    refine ⟨fun j q hj hq hocc => hring.others hj hq hocc, fun hmoved => ?_,
      fun x hx hw => hring.starts hinv.rpBound hx hw⟩
    obtain ⟨hr, hocc⟩ | hclosed := hring.served
    · obtain hne | ⟨hs, hfree⟩ := hmoved
      · exact absurd hr hne
      · exact absurd hfree (hocc hs).not_freeSlot
    · exact hclosed

end Sys2Proof.Machine
end

section
/-! No step finds a spurious bus event (44_i2c_fsm.md R231): of the operations only `I2C_EVENT` in `IDLE` raises
`FAULT = 7`, and the bus interrupt issues its event word only while a transfer is active (10_state.md R50). -/

namespace Sys2Proof.Machine

theorem raise_code {s : State} (h : s.fault = 0#8) (c : FaultCode) : (s.raise c).fault = c.code := by
  rw [raise_of_unfaulted h]

/-- Outside `IDLE` a row of the transition table raises no fault (44_i2c_fsm.md R230). -/
theorem busRow_fault {s : State} (hb : s.busState ≠ .idle) (ev : BusEvent) (b : Byte) :
    (s.busRow ev b).fault = s.fault := by
  obtain ⟨hidle, -⟩ | ⟨-, next, -, h⟩ | ⟨-, h⟩ | ⟨-, st, d, h⟩ | ⟨-, st, d, h⟩ := busRow_cases s ev b
  · exact absurd hidle hb
  all_goals rw [h]
  · exact (sendAddress_frame s next).fault
  · exact (closeTransfer_frame s).fault
  · rfl
  · rfl

theorem effectI2cEvent_fault {s : State} (hb : s.busState ≠ .idle) (code data : Byte) :
    (effectI2cEvent code data s).fault = s.fault := by
  rw [effectI2cEvent, if_neg hb, State.returns_fault]
  exact busRow_fault (s := { s with pollPending := true }) hb _ _

/-- What an operation's effect does to `FAULT`: nothing, the fault of a failed operand check, or a spurious event. -/
theorem effectOf_fault (i : Instr) (s : State) :
    (effectOf i s).fault = s.fault ∨
    (∃ c, (c = .nullHandler ∨ c = .invalidDelay ∨ c = .invalidTaskId) ∧ effectOf i s = s.raise c) ∨
    ((∃ code data, i = .i2cEvent code data) ∧ s.busState = .idle) := by
  cases i with
  | csEnter | csExit _ | wait | run | schedPoll | tick | i2cNack | i2cTx _ => exact .inl rfl
  | schedTask h delay =>
    dsimp only [effectOf, effectSchedTask]
    split
    · exact .inr (.inl ⟨_, .inl rfl, rfl⟩)
    split
    · exact .inr (.inl ⟨_, .inr (.inl rfl), rfl⟩)
    split <;> exact .inl rfl
  | unschedTask id =>
    dsimp only [effectOf, effectUnschedTask]
    split
    · exact .inr (.inl ⟨_, .inr (.inr rfl), rfl⟩)
    · exact .inl rfl
  | i2cReq addr rw h =>
    dsimp only [effectOf, effectI2cReq]
    split
    · exact .inr (.inl ⟨_, .inl rfl, rfl⟩)
    split <;> exact .inl rfl
  | i2cReqi addr rw h =>
    dsimp only [effectOf, effectI2cReqi]
    split
    · exact .inr (.inl ⟨_, .inl rfl, rfl⟩)
    · exact .inl rfl
  | i2cPoll => exact .inl (busPoll_frame s).fault
  | i2cEvent code data =>
    by_cases hb : s.busState = .idle
    · exact .inr (.inr ⟨⟨code, data, rfl⟩, hb⟩)
    · exact .inl (effectI2cEvent_fault hb code data)

/-- The one operation that finds an event spurious is the bus interrupt's, in `IDLE` (R231). -/
theorem exec_spurious {i : Instr} {s t : State} (hs : s.fault = 0#8) (h : exec i s = .next t) (hf : t.fault = 7#8) :
    InCtx .isrI2c s ∧ s.busState = .idle := by
  cases hm : mayIssue i s
  · rw [exec_denied hm] at h
    cases h
    rw [raise_code hs] at hf
    exact absurd hf (by decide)
  rw [exec_allowed hm] at h
  cases h
  obtain he | ⟨c, hc, he⟩ | ⟨⟨code, data, rfl⟩, hb⟩ := effectOf_fault i s
  · rw [he, hs] at hf
    exact absurd hf (by decide)
  · rw [he, raise_code hs] at hf
    obtain rfl | rfl | rfl := hc <;> exact absurd hf (by decide)
  · exact ⟨(mayIssue_i2cEvent s code data).1 hm, hb⟩

/-- The engine raises no fault. -/
theorem engineStep_fault (gate : Bool) (s : State) : (engineStep gate s).fault = s.fault := by
  cases hr : s.runActive
  · rw [engineStep, hr]
    rfl
  rw [engineStep_running hr]
  cases s.phase with
  | clear | inHandler | halted => rfl
  | drain =>
    dsimp only [microStep, engineDrain]
    split <;> rfl
  | scan =>
    dsimp only [microStep, engineScan]
    split
    · rfl
    split
    · rfl
    split <;> rfl
  | passEnd =>
    dsimp only [microStep, enginePassEnd]
    split <;> rfl
  | busPoll => exact (busPoll_frame s).fault
  | sleepCheck =>
    dsimp only [microStep, engineSleepCheck]
    split <;> rfl

theorem controllerReports_fault (ev : BusEvent) (d : Byte) (s : State) :
    (controllerReports ev d s).fault = s.fault := by
  unfold controllerReports
  split <;> rfl

theorem Decodes.fault {s s1 : State} {w : Word} (h : Decodes s w s1) : s1.fault = s.fault := by
  cases h <;> simp

/-- Every step but a word's leaves `FAULT` alone. -/
theorem StepCase.fault {s t : State} (h : StepCase s t) :
    t.fault = s.fault ∨
    (∃ s1 w c, Decodes s w s1 ∧ (c = .illegalOpcode ∨ c = .reservedNonzero) ∧ t = s1.raise c) ∨
    (∃ s1 w i, Decodes s w s1 ∧ exec i s1 = .next t) := by
  cases h with
  | timer | otherDevice | noStep | exit | taskReturn => exact .inl (State.drawn_fault s)
  | controller ev d => exact .inl ((controllerReports_fault ev d _).trans (State.drawn_fault s))
  | hang p => exact .inl (by simp)
  | entry x => exact .inl (by simp)
  | engine d => exact .inl ((engineStep_fault d.gate _).trans (State.drawn_fault s))
  | badWord s1 w hd hs c hc => exact .inr (.inl ⟨s1, w, c, hd, hc, rfl⟩)
  | word s1 w hd hs i hw t ht => exact .inr (.inr ⟨s1, w, i, hd, ht⟩)
  | xferReturn st r => exact .inl ((afterHandler_frame _ st r).fault.trans (State.drawn_fault s))

/-- Under the invariant a word that the bus interrupt issues finds a transfer active (10_state.md R50 item 4). -/
theorem Decodes.busy {s s1 : State} {w : Word} (hd : Decodes s w s1) (h : s.Inv) (hc : InCtx .isrI2c s1) :
    s1.busState ≠ .idle := by
  have hisr : s.ctx.head? = some .isrI2c := by rwa [InCtx, hd.ctx] at hc
  cases hd with
  | program d ht p ws hp hw hk => obtain hk | ⟨i, hk⟩ | ⟨st, hk⟩ := hk <;> simp [hisr] at hk
  | body ws hb => exact (eventTaken_issue (drawn_keepsInv h) (by simpa using hisr) (by simpa using hb)).busy

/-- Settles O59, by the cases of a step: only a word raises a fault, and `FAULT = 7` is that of the bus interrupt's word
in `IDLE`, where the invariant leaves that interrupt no word to issue. -/
theorem busEventsAreNeverSpurious : Obligations.BusEventsAreNeverSpurious := by
  unfold Obligations.BusEventsAreNeverSpurious
  intro s t hinv hstep hf
  obtain ⟨hs, hcase⟩ := step_cases hstep
  obtain he | ⟨s1, w, c, hd, hc, rfl⟩ | ⟨s1, w, i, hd, hx⟩ := hcase.fault
  · rw [he, hs] at hf
    exact absurd hf (by decide)
  · rw [raise_code (hd.fault.trans hs)] at hf
    obtain rfl | rfl := hc <;> exact absurd hf (by decide)
  · obtain ⟨hc, hb⟩ := exec_spurious (hd.fault.trans hs) hx hf
    exact hd.busy hinv hc hb

end Sys2Proof.Machine
end

section
/-! The rows of the transition table (44_i2c_fsm.md R220, R230): what `I2C_EVENT` does in each bus state, up to the
handler's call where the row makes one. -/

namespace Sys2Proof.Machine

/-- A command is what R302 says of it (60_exceptions.md). -/
theorem cmd_commanded (s : State) (c : Cmd) :
    s.cmd c = commanded s (Config.freeByte s.draws) (Config.freeByte (s.draws + 1)) (s.draws + 2)
      (if c = .stop then none else some c) (wireOf s.busOwned c) (if c = .stop then false else s.busOwned) := by
  cases c <;> rfl

/-- `close()` is what R226 says of it. -/
theorem closeTransfer_closed {s : State} {q : Request} (hq : s.queue[s.rp]? = some q) :
    s.closeTransfer = closed s q (Config.freeByte s.draws) (Config.freeByte (s.draws + 1)) (s.draws + 2) := by
  unfold State.closeTransfer closed
  split
  · exact startTransfer_started (s := { s with instantPend := false }) hq
  · rw [cmd_commanded, modify_eq_set hq]
    rfl

/-- `POLL_PENDING` plays no part in `close()`. -/
theorem closed_pollPending (s : State) (b : Bool) (q : Request) (code data : Byte) (n : Nat) :
    closed { s with pollPending := b } q code data n = { closed s q code data n with pollPending := b } := by
  unfold closed
  split <;> rfl

/-- The address byte as a number: the address over the direction bit (30_encoding.md R97). -/
theorem sla_toNat (q : Request) : q.sla.toNat = 2 * q.addr.toNat + (if q.tx then 0 else 1) := by
  have haddr := q.addr.isLt
  have hbit : (if q.tx then 0 else 1) < 2 ^ 1 := by split <;> decide
  have hor := Nat.two_pow_add_eq_or_of_lt hbit q.addr.toNat
  have hlow : ((BitVec.ofBool (!q.tx)).setWidth 8).toNat = if q.tx then 0 else 1 := by cases q.tx <;> rfl
  have hhigh : (q.addr.setWidth 8 <<< 1).toNat = 2 ^ 1 * q.addr.toNat := by
    simp only [BitVec.toNat_shiftLeft, BitVec.toNat_setWidth, Nat.shiftLeft_eq]
    omega
  rw [Request.sla, BitVec.toNat_or, hlow, hhigh, ← hor, pow_one]

/-- The address byte is commanded as R302 says (R232). -/
theorem sendAddress_commanded {s : State} {q : Request} (hq : s.queue[s.rp]? = some q) (next : BusState) :
    s.sendAddress next =
      { commanded s (Config.freeByte s.draws) (Config.freeByte (s.draws + 1)) (s.draws + 2) (some (.send q.sla))
          [.w q.sla] s.busOwned with busState := next } := by
  rw [State.sendAddress, cmd_commanded, active_eq hq]
  rfl

/-- In the bus interrupt of an active transfer `I2C_EVENT` performs the event's row (R220). -/
theorem exec_i2cEvent_row {s : State} (hc : InCtx .isrI2c s) (hb : s.busState ≠ .idle) (code data : Byte) :
    exec (.i2cEvent code data) s =
      .next (({ s with pollPending := true }.busRow (s.params.statusMap.event code) data).returns .nothing) := by
  rw [exec_allowed ((mayIssue_i2cEvent s code data).2 hc), effectOf, effectI2cEvent, if_neg hb]

/-- In `IDLE` it faults, with the free value of `POLL_PENDING` (R231, log 13). -/
theorem exec_i2cEvent_idle {s : State} (hc : InCtx .isrI2c s) (hf : s.fault = 0#8) (hb : s.busState = .idle)
    (code data : Byte) :
    exec (.i2cEvent code data) s =
      .next { s with pollPending := s.pollPending || Config.spuriousEventSetsPoll, fault := 7#8 } := by
  rw [exec_allowed ((mayIssue_i2cEvent s code data).2 hc), effectOf, effectI2cEvent, if_pos hb,
    raise_of_unfaulted]
  · rfl
  · exact hf

/-- A START's completion in `SLA_W` and `SLA_R` (R232). -/
theorem busRow_startDone {s : State} {ev : BusEvent} (hev : ev = .startSent ∨ ev = .repStartSent) (b : Byte) :
    (s.busState = .slaW → s.busRow ev b = s.sendAddress .slaWSent) ∧
    (s.busState = .slaR → s.busRow ev b = s.sendAddress .slaRSent) := by
  have hdone : ev.startDone = true := decide_eq_true hev
  exact ⟨fun h => by rw [State.busRow, h]; exact if_pos hdone, fun h => by rw [State.busRow, h]; exact if_pos hdone⟩

/-- The byte that a closing read forces (R237). -/
theorem busRow_closingRead {s : State} (h : s.busState = .closingRead) (b : Byte) :
    s.busRow .dataRxNack b = s.closeTransfer := by
  rw [State.busRow, h]
  rfl

/-- The call that a row makes: a write-phase callback clears `TX_PEND` before it (R223, R224). -/
theorem busRow_of_rowCall {s : State} {ev : BusEvent} {b d : Byte} {st : Status}
    (h : rowCall s.busState ev b = some (st, d)) :
    s.busRow ev b =
      (if st = .transmitReady ∨ st = .byteTransmitted then { s with txPend := false } else s : State).deliver st d := by
  unfold State.busRow
  cases hb : s.busState <;> simp only [rowCall, hb] at h ⊢
  case idle => cases h
  case slaW | slaR | closingRead =>
    split at h
    · cases h
    · cases h
      simp [BusEvent.startDone, *]
  case slaWSent | slaRSent =>
    split at h <;> cases h <;> simp [State.writeCallback, *]
  case write | read =>
    split at h
    · cases h
      simp [State.writeCallback, *]
    · split at h <;> cases h <;> simp [*]

/-- Settles O16: the permission matrix refuses `I2C_EVENT` outside the bus interrupt, and the row of `IDLE` faults. -/
theorem i2cEventOutsideBodyFaults : Obligations.I2cEventOutsideBodyFaults := by
  unfold Obligations.I2cEventOutsideBodyFaults
  refine fun code data => ⟨rfl, fun s => ⟨fun hc hf => ?_, fun hc hf hb => ?_⟩⟩
  · exact faultsOnly_of_denied (mt (mayIssue_i2cEvent s code data).1 hc) hf
  · refine ⟨s.pollPending || Config.spuriousEventSetsPoll, ?_, exec_i2cEvent_idle hc hf hb code data⟩
    cases Config.spuriousEventSetsPoll <;> simp

/-- Settles O17: the byte is that of the request at `RP`, and the rows of `SLA_W` and `SLA_R` send it. -/
theorem startCompletionSendsAddress : Obligations.StartCompletionSendsAddress := by
  unfold Obligations.StartCompletionSendsAddress
  intro s code data q hc hq hev
  obtain ⟨hrowW, hrowR⟩ := busRow_startDone (s := { s with pollPending := true }) hev data
  have hsend := sendAddress_commanded (s := { s with pollPending := true }) hq
  refine ⟨q.sla, sla_toNat q, fun hb => ?_, fun hb => ?_⟩
  · rw [exec_i2cEvent_row hc (by simp [hb]), hrowW hb, hsend]
    exact ⟨_, _, _, rfl⟩
  · rw [exec_i2cEvent_row hc (by simp [hb]), hrowR hb, hsend]
    exact ⟨_, _, _, rfl⟩

/-- Settles O18: the table makes no call in `IDLE`, and in every other state the row's call is `deliver`'s. -/
theorem eventRowsCallHandler : Obligations.EventRowsCallHandler := by
  unfold Obligations.EventRowsCallHandler
  intro s code data q st b hc hq hrow
  have hb : s.busState ≠ .idle := by
    intro hb
    simp [hb, rowCall] at hrow
  rw [exec_i2cEvent_row hc hb, busRow_of_rowCall (s := { s with pollPending := true }) hrow, ← active_eq hq]
  by_cases hst : st = .transmitReady ∨ st = .byteTransmitted
  · simp only [if_pos hst]
    rfl
  · simp only [if_neg hst]
    rfl

/-- Settles O19: the row is `close()`, which leaves `POLL_PENDING` as `I2C_EVENT` set it. -/
theorem closingReadConsumesByte : Obligations.ClosingReadConsumesByte := by
  unfold Obligations.ClosingReadConsumesByte
  intro s code data q hc hq hb hev
  have hclose := closeTransfer_closed (s := { s with pollPending := true }) hq
  rw [closed_pollPending] at hclose
  rw [exec_i2cEvent_row hc (by simp [hb]), hev, busRow_closingRead (s := { s with pollPending := true }) hb, hclose]
  exact ⟨_, _, _, rfl⟩

end Sys2Proof.Machine
end

section
/-! The transfer handler's return (44_i2c_fsm.md R223, R225, R227), and the one command that every event gets (R245). -/

namespace Sys2Proof.Machine

/-- A step of the program `p` past its last word returns from the transfer handler (R224). -/
theorem programStep_xferReturn {p : Program} {s : State} {st : Status} (hc : InCtx (.xferCb st) s) (hw : p.words = [])
    (hr : p.returns = true) : programStep p s = .next (s.pop.afterHandler st p.goOn) := by
  obtain ⟨rest, hctx⟩ := inCtx_cons hc
  simp [programStep, hw, hr, hctx]

/-- The return's step goes on where the status was delivered, in the context that called the handler (log 15). -/
theorem step_of_xferReturn {s : State} {d : UnitDraw} {r : Bool} {st : Status} {rest : List Ctx}
    (h : XferReturn s d r) (hctx : s.ctx = .xferCb st :: rest) :
    step s = .next ({ s.drawn with ctx := rest }.afterHandler st r) := by
  obtain ⟨p, hu, hrun, hw, hr, rfl⟩ := h
  have hc : InCtx (.xferCb st) s := by rw [InCtx, hctx]; rfl
  have hpop : s.drawn.pop = { s.drawn with ctx := rest } := by simp [State.pop, hctx]
  rw [step_of_software hu hc (.inr (.inr ⟨st, rfl⟩)), softwareStep_of_runs hc ((runsCode_xfer hrun.1 d p).2 hrun),
    programStep_xferReturn (by simpa [InCtx] using hc) hw hr, hpop]

-- The handler's answer, by the status delivered

theorem afterHandler_write {st : Status} (h : st = .transmitReady ∨ st = .byteTransmitted) (s : State) (r : Bool) :
    s.afterHandler st r = s.writeAnswer r := by
  obtain rfl | rfl := h <;> rfl

theorem afterHandler_read {st : Status} (h : st = .receiveReady ∨ st = .byteReceived) (s : State) (r : Bool) :
    s.afterHandler st r = s.readAnswer r := by
  obtain rfl | rfl := h <;> rfl

theorem afterHandler_closing {st : Status}
    (h : st = .transmitFailed ∨ st = .receiveFailed ∨ st = .nack ∨ st = .lastByteReceived) (s : State) (r : Bool) :
    s.afterHandler st r = s.closeTransfer := by
  obtain rfl | rfl | rfl | rfl := h <;> rfl

theorem writeAnswer_supplied {s : State} (h : s.txPend = true) :
    s.writeAnswer true = { ({ s with txPend := false } : State).cmd (.send s.txData) with busState := .write } :=
  if_pos ⟨rfl, h⟩

theorem writeAnswer_none {s : State} {r : Bool} (h : r = false ∨ s.txPend = false) :
    s.writeAnswer r = s.closeTransfer := by
  refine if_neg fun ⟨hr, hp⟩ => ?_
  obtain h | h := h
  · simp [h] at hr
  · simp [h] at hp

theorem readAnswer_nack {s : State} (h : s.nackReq = true) :
    s.readAnswer true = { s.cmd .recvNack with busState := .read } := by
  simp [State.readAnswer, h]

theorem readAnswer_ack {s : State} (h : s.nackReq = false) :
    s.readAnswer true = { s.cmd .recvAck with busState := .read } := by
  simp [State.readAnswer, h]

theorem readAnswer_end (s : State) : s.readAnswer false = { s.cmd .recvNack with busState := .closingRead } := rfl

/-- Settles O20, by the two cases of the answer. -/
theorem writeHandlerAnswer : Obligations.WriteHandlerAnswer := by
  unfold Obligations.WriteHandlerAnswer
  intro s d r st rest q h hctx hq hst
  rw [step_of_xferReturn h hctx, afterHandler_write hst]
  refine ⟨?_, fun hn => ?_⟩
  · rintro rfl hp
    rw [writeAnswer_supplied (by simpa using hp), cmd_commanded]
    rw [← State.drawn_txData s, ← State.drawn_busOwned s]
    exact ⟨_, _, _, rfl⟩
  · rw [writeAnswer_none (by simpa using hn), closeTransfer_closed (by simpa using hq)]
    exact ⟨_, _, _, rfl⟩

/-- Settles O21, by the answer and, where the read goes on, `NACK_REQ`. -/
theorem readHandlerAnswer : Obligations.ReadHandlerAnswer := by
  unfold Obligations.ReadHandlerAnswer
  intro s d r st rest h hctx hst
  rw [step_of_xferReturn h hctx, afterHandler_read hst]
  refine ⟨?_, ?_, ?_⟩
  · rintro rfl hn
    rw [readAnswer_nack (by simpa using hn), cmd_commanded, ← State.drawn_busOwned s]
    exact ⟨_, _, _, rfl⟩
  · rintro rfl hn
    rw [readAnswer_ack (by simpa using hn), cmd_commanded, ← State.drawn_busOwned s]
    exact ⟨_, _, _, rfl⟩
  · rintro rfl
    rw [readAnswer_end, cmd_commanded, ← State.drawn_busOwned s]
    exact ⟨_, _, _, rfl⟩

/-- Settles O22: the answer to a closing status is not read. -/
theorem closingStatusClosesTransfer : Obligations.ClosingStatusClosesTransfer := by
  unfold Obligations.ClosingStatusClosesTransfer
  intro s d r st rest q h hctx hq hst
  rw [step_of_xferReturn h hctx, afterHandler_closing hst, closeTransfer_closed (by simpa using hq)]
  exact ⟨_, _, _, rfl⟩

-- One command for each event

theorem wireOf_start (owned : Bool) : wireOf owned .start = [if owned then .sr else .s] := by cases owned <;> rfl

theorem Gave.gotCommand {s t : State} {c : Cmd} (h : Gave s t c) : GotCommand s t c := by
  obtain ⟨hirq, hwire, hcmd, hwait, howned, -⟩ := h
  cases c with
  | start => exact ⟨hirq, wireOf_start _ ▸ hwire, hcmd, hwait, howned⟩
  | stop | send _ | recvAck | recvNack => exact ⟨hirq, hwire, hcmd, hwait, howned⟩

theorem GotCommand.ctrlCmd {s t : State} {c : Cmd} (h : GotCommand s t c) :
    t.ctrlCmd = if c = .stop then none else some c := by
  cases c <;> obtain ⟨-, -, hcmd, -⟩ := h <;> exact hcmd

/-- `CTRL_CMD` tells which command the controller got: none is left by STOP alone. -/
theorem GotCommand.unique {s t : State} {c c' : Cmd} (h : GotCommand s t c) (h' : GotCommand s t c') : c' = c := by
  have he : (if c' = .stop then none else some c') = if c = .stop then none else some c :=
    h'.ctrlCmd.symm.trans h.ctrlCmd
  split at he
  next hstop' =>
    split at he
    next hstop => rw [hstop', hstop]
    next => cases he
  next =>
    split at he
    next => cases he
    next => exact Option.some.inj he

/-- What the driver did is one command, and only one. -/
theorem Gave.exactlyOne {s t : State} {c : Cmd} (h : Gave s t c) :
    ∃ c, GotCommand s t c ∧ (∀ c', GotCommand s t c' → c' = c) ∧ (t.busState = .idle ↔ c = .stop) :=
  ⟨c, h.gotCommand, fun _ => h.gotCommand.unique, h.idle⟩

/-- A command seen from a state with the same wire and bus. -/
theorem Gave.of_same {s s1 t : State} {c : Cmd} (h : Gave s1 t c) (hw : s1.wire = s.wire)
    (ho : s1.busOwned = s.busOwned) : Gave s t c :=
  ⟨h.irqI2c, by rw [h.wire, hw, ho], h.ctrlCmd, h.ctrlWait, by rw [h.busOwned, ho], h.idle⟩

theorem Gave.returns {s t : State} {c : Cmd} (h : Gave s t c) (r : Result) : Gave s (t.returns r) c :=
  ⟨h.irqI2c, h.wire, h.ctrlCmd, h.ctrlWait, h.busOwned, h.idle⟩

/-- Settles O23: a row of an active transfer commands or calls, and the continuation after the call commands. -/
theorem eventGetsExactlyOneCommand : Obligations.EventGetsExactlyOneCommand := by
  unfold Obligations.EventGetsExactlyOneCommand
  intro s t hb
  refine ⟨fun code data hc hx => ?_, fun d r h hstep => ?_⟩
  · rw [exec_i2cEvent_row hc hb] at hx
    cases hx
    obtain ⟨hidle, -⟩ | ⟨-, next, hn, he⟩ | ⟨-, he⟩ | ⟨-, st, b, he⟩ | ⟨-, st, b, he⟩ :=
      busRow_cases { s with pollPending := true } (s.params.statusMap.event code) data
    · exact absurd hidle hb
    all_goals rw [he]
    · have hgave := (sendAddress_gave { s with pollPending := true } hn).of_same (s := s) rfl rfl
      exact .inl ⟨rfl, (hgave.returns .nothing).exactlyOne⟩
    · obtain ⟨c, hgave⟩ := closeTransfer_gave { s with pollPending := true }
      exact .inl ⟨(closeTransfer_frame _).ctx, ((hgave.of_same (s := s) rfl rfl).returns .nothing).exactlyOne⟩
    · exact .inr ⟨⟨st, rfl⟩, rfl, rfl, rfl, rfl, rfl, rfl⟩
    · exact .inr ⟨⟨st, rfl⟩, rfl, rfl, rfl, rfl, rfl, rfl⟩
  · obtain ⟨st, hc⟩ : InXfer s := h.elim fun _ hp => hp.2.1.1
    obtain ⟨rest, hctx⟩ := inCtx_cons hc
    rw [step_of_xferReturn h hctx] at hstep
    cases hstep
    refine ⟨by rw [(afterHandler_frame _ st r).ctx, hctx, List.tail_cons], ?_⟩
    obtain ⟨c, hgave⟩ := afterHandler_gave { s.drawn with ctx := rest } st r
    exact (hgave.of_same (by simp) (by simp)).exactlyOne

end Sys2Proof.Machine
end

section
/-! The sleep gate (45_sleep_gate.md R270, R272, R274): `WAIT`, the micro-step that halts or goes on, and the interrupt that
was pending when the engine halted. -/

namespace Sys2Proof.Machine

/-- Settles O5: the matrix allows `WAIT` to the engine's sleep check alone. -/
theorem waitEnablesAndHalts : Obligations.WaitEnablesAndHalts := by
  unfold Obligations.WaitEnablesAndHalts
  refine ⟨rfl, fun s => ⟨fun hc hp => exec_allowed ((mayIssue_wait s).2 ⟨hc, hp⟩), fun hn hf => ?_⟩⟩
  exact faultsOnly_of_denied (mt (mayIssue_wait s).1 hn) hf

-- SLEEP_CHECK (R272)

/-- The state once the engine has halted in the sleep check. -/
def halted (s : State) : State := { s with iFlag := true, sleeping := true, phase := .halted }

theorem engineSleepCheck_halts {s : State} {gate : Bool} (hp : s.pollPending = false) (hg : gate = true) :
    engineSleepCheck gate s = halted s :=
  if_pos ⟨hp, hg⟩

/-- The bracket closes with `I` as it was at its opening. -/
theorem engineSleepCheck_goesOn {s : State} {gate : Bool} (h : s.pollPending = true ∨ gate = false) :
    engineSleepCheck gate s = { s with phase := .clear } := by
  refine if_neg ?_
  rintro ⟨hp, hg⟩
  simp [hp, hg] at h

theorem step_halts {s : State} {d : UnitDraw} (h : EngineTurn s d .sleepCheck) (hp : s.pollPending = false)
    (hg : d.gate = true) : step s = .next (halted s.drawn) := by
  rw [step_of_engineTurn h, microStep, engineSleepCheck_halts (by simpa using hp) hg]

/-- Settles O41, by the two answers of the check. -/
theorem engineSleepCheckStep : Obligations.EngineSleepCheckStep := by
  unfold Obligations.EngineSleepCheckStep
  refine fun s d h => ⟨step_halts h, fun hn => ?_⟩
  rw [step_of_engineTurn h, microStep, engineSleepCheck_goesOn (by simpa using hn)]

-- The interrupt pending at the halt (R274)

theorem anyIrq_iff (s : State) : s.anyIrq = true ↔ s.irqTick = true ∨ s.irqI2c = true ∨ s.irqOther = true := by
  simp [State.anyIrq, or_assoc]

/-- With `I = 1` and any source pending, the unit's turn is an interrupt entry, halted or not (60_exceptions.md R292). -/
theorem step_of_pending {s : State} {d : UnitDraw} (hf : s.fault = 0#8) (ht : s.nextTurn = .execUnit d)
    (hi : s.iFlag = true) (hirq : s.anyIrq = true) :
    step s = .next (interruptEntry (s.pickIrq d.irq) s.drawn) := by
  simp [step, hf, ht, turnStep, unitStep, hi, hirq]

/-- Entry pushes an interrupt's context on the stack it finds (60_exceptions.md R293). -/
theorem interruptEntry_pushes (x : IrqSource) (s : State) :
    (InCtx .isrTick (interruptEntry x s) ∨ InCtx .isrI2c (interruptEntry x s) ∨ InCtx .isrOther (interruptEntry x s)) ∧
      (interruptEntry x s).ctx.tail = s.ctx := by
  obtain ⟨c, hisr, hctx, -⟩ := interruptEntry_ctx x s
  have hc : InCtx c (interruptEntry x s) := by rw [InCtx, hctx, List.head?_cons]
  refine ⟨?_, by rw [hctx, List.tail_cons]⟩
  obtain rfl | rfl | rfl := isIsr_cases hisr
  · exact .inl hc
  · exact .inr (.inl hc)
  · exact .inr (.inr hc)

/-- Settles O42: the halt leaves `I = 1` and the pending bits as they were, so the second step is the entry. -/
theorem haltTakesInterruptPendingAtCheck : Obligations.HaltTakesInterruptPendingAtCheck := by
  unfold Obligations.HaltTakesInterruptPendingAtCheck
  intro s d1 d2 rest h hscript hp hg hirq
  have hf : s.fault = 0#8 := h.1.1
  have hhalt : step s = .next (halted { s with script := .execUnit d2 :: rest }) := by
    rw [step_halts h hp hg, (nextTurn_of_script hscript).2]
  have hentry := step_of_pending (d := d2) (s := halted { s with script := .execUnit d2 :: rest }) hf rfl rfl
    ((anyIrq_iff _).2 hirq)
  exact ⟨_, (run_succ hhalt 1).trans (run_succ hentry 0), interruptEntry_sleeping .., interruptEntry_iFlag ..,
    interruptEntry_pushes ..⟩

end Sys2Proof.Machine
end

section
/-! Interrupts and the devices that raise them (60_exceptions.md R282, R290 to R305): entry, exit, and what a turn of each
device writes. -/

namespace Sys2Proof.Machine

/-- Settles O30: `step` asks for `FAULT = 0` before anything else. -/
theorem faultedStateIsQuiescent : Obligations.FaultedStateIsQuiescent := by
  unfold Obligations.FaultedStateIsQuiescent
  exact fun s => ⟨fun hf => if_neg hf, fun t h => (step_cases h).1⟩

-- Interrupt entry and exit (R292, R293, R296)

/-- Settles O31: the source taken is `pickIrq`'s, and each source's entry is R293 with the body of R290. -/
theorem pendingInterruptIsTakenFirst : Obligations.PendingInterruptIsTakenFirst := by
  unfold Obligations.PendingInterruptIsTakenFirst
  intro s d hf ht hi hirq
  have hany : s.anyIrq = true := (anyIrq_iff s).2 hirq
  refine ⟨s.pickIrq d.irq, pickIrq_pending s d.irq hany, pickIrq_preferred, ?_⟩
  rw [step_of_pending hf ht hi hany]
  refine ⟨fun hx => ?_, fun hx => ?_, fun hx => ?_⟩
  · simp [hx, interruptEntry, tickWord, encode]
  · simp [hx, interruptEntry, State.eventWord, encode]
  · simp [hx, interruptEntry]

section exit
variable {s : State} {c : Ctx} {rest : List Ctx} (hctx : s.ctx = c :: rest)
include hctx

theorem interruptExit_wakes (h : rest.head? = some .poll ∧ s.phase = .halted) :
    interruptExit s = { s with ctx := rest, iFlag := true, phase := .clear } := by
  rw [interruptExit, hctx, List.tail_cons, if_pos h]

theorem interruptExit_no_wake (h : ¬ (rest.head? = some .poll ∧ s.phase = .halted)) :
    interruptExit s = { s with ctx := rest, iFlag := true } := by
  rw [interruptExit, hctx, List.tail_cons, if_neg h]

end exit

/-- Settles O32: the body has no word left, so the step is the exit, with or without the engine's wake. -/
theorem finishedBodyExits : Obligations.FinishedBodyExits := by
  unfold Obligations.FinishedBodyExits
  intro s d c rest hu hctx hc hb
  have hisr : c.isIsr = true := by obtain rfl | rfl | rfl := hc <;> rfl
  have hstep : step s = .next (interruptExit s.drawn) := by
    rw [step_of_isr hu (by rw [InCtx, hctx, List.head?_cons]) hisr, bodyStep_exit (by simpa using hb)]
  have hdrawn : s.drawn.ctx = c :: rest := by rw [State.drawn_ctx, hctx]
  rw [hstep]
  refine ⟨fun hpoll hhalted => ?_, fun hn => ?_⟩
  · rw [interruptExit_wakes hdrawn ⟨hpoll, by rw [State.drawn_phase, hhalted]⟩]
  · rw [interruptExit_no_wake hdrawn (by rwa [State.drawn_phase])]

-- The timer and the other devices (R291, R300, R305)

theorem step_of_turn {s : State} {t : Turn} (hf : s.fault = 0#8) (ht : s.nextTurn = t) :
    step s = turnStep t s.drawn := by
  rw [step, if_pos hf, ht]

theorem step_of_timer {s : State} {rest : List Turn} (hf : s.fault = 0#8) (hscript : s.script = .tickTimer :: rest) :
    step s = .next { s with irqTick := true, script := rest } := by
  obtain ⟨hturn, hdrawn⟩ := nextTurn_of_script hscript
  rw [step_of_turn hf hturn, hdrawn, turnStep, timerFires]

/-- Settles O46: a turn of the device is its firing, and the second of two timer turns finds the bit 1 already. -/
theorem deviceFiringsSetPendingBits : Obligations.DeviceFiringsSetPendingBits := by
  unfold Obligations.DeviceFiringsSetPendingBits
  refine fun s hf => ⟨step_of_turn hf, step_of_turn hf, fun rest hscript => ?_⟩
  have hsecond := step_of_timer (s := { s with irqTick := true, script := .tickTimer :: rest }) hf rfl
  exact (run_succ (step_of_timer hf hscript) 1).trans (run_succ hsecond 0)

-- The bus controller (R303, R304)

/-- The events `CONFORMING` allows are the listed ones; `RW` of an address byte is its lowest bit. -/
theorem conforms_iff (s : State) (ev : BusEvent) : conforms s ev = true ↔ ev ∈ conformingEvents s := by
  unfold conforms conformingEvents
  match s.ctrlCmd with
  | none | some .stop | some .start | some .recvAck | some .recvNack => simp
  | some (.send b) =>
    have hbit : b[0] = decide (b.toNat % 2 = 1) := by simp [BitVec.getElem_eq_testBit_toNat, Nat.testBit_zero]
    by_cases haddr : s.busState = .slaWSent ∨ s.busState = .slaRSent
    · obtain hrw | hrw := Nat.mod_two_eq_zero_or_one b.toNat <;> simp [haddr, hbit, hrw]
    · simp [haddr]

theorem controllerMay_iff (s : State) (ev : BusEvent) :
    controllerMay s ev = true ↔ s.ctrlWait = true ∧ s.params.statusMap.event (s.params.statusMap.codeOf ev) = ev ∧
      (s.params.controllerMode = .any ∨ ev ∈ conformingEvents s) := by
  cases hm : s.params.controllerMode <;> simp [controllerMay, StatusMap.reports, hm, conforms_iff, and_assoc]

@[simp] theorem State.drawn_controllerMay (s : State) (ev : BusEvent) :
    controllerMay s.drawn ev = controllerMay s ev := by
  simp [controllerMay, conforms]

/-- A report the controller may make has its effect (R303). -/
theorem step_of_report {s : State} {ev : BusEvent} {b : Byte} (hf : s.fault = 0#8)
    (ht : s.nextTurn = .controller ev b) (hmay : controllerMay s ev = true) :
    step s = .next { s.drawn with
      ctrlCode := s.params.statusMap.codeOf ev, ctrlData := b, ctrlWait := false, irqI2c := true,
      busOwned := if ev = .startSent ∨ ev = .repStartSent then true
        else if ev = .arbLost ∨ ev = .busError then false else s.busOwned } := by
  simp [step_of_turn hf ht, turnStep, controllerReports, hmay]

/-- A report the controller may not make is no step (log 5). -/
theorem step_of_no_report {s : State} {ev : BusEvent} {b : Byte} (hf : s.fault = 0#8)
    (ht : s.nextTurn = .controller ev b) (hmay : ¬ controllerMay s ev = true) : step s = .next s.drawn := by
  simp [step_of_turn hf ht, turnStep, controllerReports, hmay]

/-- Settles O47: in mode ANY a waited command and an event with a code are all that a report needs. -/
theorem controllerReportsEvent : Obligations.ControllerReportsEvent := by
  unfold Obligations.ControllerReportsEvent
  refine fun s ev b hf ht => ⟨fun hwait hany hcode => ?_, fun hn => ?_⟩
  · exact step_of_report hf ht ((controllerMay_iff s ev).2 ⟨hwait, hcode, .inl hany⟩)
  · refine step_of_no_report hf ht fun hmay => ?_
    obtain ⟨hwait, hcode, -⟩ := (controllerMay_iff s ev).1 hmay
    obtain hidle | hnone := hn
    · simp [hidle] at hwait
    · exact hnone hcode

/-- Settles O48: what is left to ask of a report in mode CONFORMING is that its event is a conforming one. -/
theorem conformingControllerReports : Obligations.ConformingControllerReports := by
  unfold Obligations.ConformingControllerReports
  intro s ev b hf ht hmode hwait hcode
  have hmay : controllerMay s ev = true ↔ ev ∈ conformingEvents s := by
    simp [controllerMay_iff, hwait, hcode, hmode]
  exact ⟨fun hc => step_of_report hf ht (hmay.2 hc), fun hn => step_of_no_report hf ht (mt hmay.1 hn)⟩

end Sys2Proof.Machine
end

section
/-! Reset and the quiescent point (10_state.md R50, R54, 70_reset_and_hazards.md R320, R323, R325): the invariant's base
case, and the turns of a machine that waits for a device. -/

namespace Sys2Proof.Machine

-- The clean entry (R323)

/-- Reset is a clean entry for every choice of the parameters (R54). -/
theorem resetWith_cleanEntry (n m : Nat) (p : Params) : (State.resetWith n m p).cleanEntry := by
  simp [State.cleanEntry, State.resetWith]

/-- An empty ring is a run of no requests, wherever `RP` points. -/
theorem ringRun_zero_of_ringFree {s : State} (h : s.ringFree = true) : s.ringRun 0 := by
  refine ⟨Nat.zero_le _, fun j hj => ?_⟩
  have hslot : (s.rp + j) % s.queue.length < s.queue.length := Nat.mod_lt _ (Nat.zero_lt_of_lt hj)
  have hfree : ∀ q ∈ s.queue, q.handler = 0#8 := by simpa [State.ringFree] using h
  rw [List.getD_eq_getElem _ _ hslot, hfree _ (List.getElem_mem hslot)]
  simp

/-- Boot code alone before `RUN`, awake and with no tick in the pass, meets the execution unit's parts. -/
theorem UnitInv.of_boot {s : State} (hc : s.ctx = [.boot]) (hrun : s.runActive = false) (hs : s.sleeping = false)
    (hcur : s.cursor = 0) (hticks : s.nextTicks = 0#16) : UnitInv s := by
  refine ⟨.of_base (by rw [hc]; rfl), ⟨?_, ?_, ?_, ?_, fun _ => hticks⟩, ⟨?_, ?_⟩⟩
  · simp [hc, hrun]
  · simp [hc]
  · simp [hrun]
  · simp [hcur]
  · simp [hs]
  · simp [hc]

/-- An empty ring and an idle driver meet the ring's parts. -/
theorem RingInv.of_ringFree {s : State} (hfree : s.ringFree = true) (hrp : s.rp < s.queue.length)
    (hb : s.busState = .idle) : RingInv s :=
  ⟨hrp, ⟨0, ringRun_zero_of_ringFree hfree⟩, fun hbusy => absurd hb hbusy⟩

/-- A driver that is idle and quiet under a base stack meets the dialogue's parts. -/
theorem BusInv.of_idle {s : State} (hc : legalBase s.ctx = true) (hb : s.busState = .idle)
    (hinst : s.instantPend = false) (hwait : s.ctrlWait = false) (hirq : s.irqI2c = false) : BusInv s :=
  ⟨fun _ => ⟨hinst, hwait, hirq, answering_of_base hc⟩, fun hbusy => absurd hb hbusy, fun _ => ⟨hwait, hirq⟩⟩

/-- The base case of the invariant. -/
theorem State.cleanEntry.inv {s : State} (h : s.cleanEntry) (hq : 1 ≤ s.queue.length) : s.Inv := by
  have hctx : s.ctx = [.boot] := congrArg State.ctx h
  have hrp : s.rp = 0 := congrArg State.rp h
  have hidle : s.busState = .idle := congrArg State.busState h
  have hqueue : s.queue = List.replicate s.queue.length Request.free := congrArg State.queue h
  have hfree : s.ringFree = true := by rw [State.ringFree, hqueue]; simp [Request.free]
  exact UnitInv.inv
    (.of_boot hctx (congrArg State.runActive h) (congrArg State.sleeping h) (congrArg State.cursor h)
      (congrArg State.nextTicks h))
    (.of_ringFree hfree (by omega) hidle)
    (.of_idle (by rw [hctx]; rfl) hidle (congrArg State.instantPend h) (congrArg State.ctrlWait h)
      (congrArg State.irqI2c h))

/-- Settles O57: reset is the clean entry of its own parameters, and at a clean entry boot code runs alone over an empty
ring and an idle driver. -/
theorem cleanEntryMeetsInvariant : Obligations.CleanEntryMeetsInvariant := by
  unfold Obligations.CleanEntryMeetsInvariant
  exact ⟨resetWith_cleanEntry _ _ _, fun _ h hq => h.inv hq⟩

-- The quiescent point (R325)

theorem quiescent_iff (s : State) : s.quiescent = true ↔
    s.fault = 0#8 ∧ s.runActive = true ∧ s.phase = .halted ∧ s.sleeping = true ∧ s.anyIrq = false ∧
      s.ctrlWait = false ∧ s.busState = .idle ∧ s.ringFree = true := by
  simp [State.quiescent, and_assoc]

/-- The halted unit has no step while nothing is pending (45_sleep_gate.md R272, log 5). -/
theorem step_of_sleeping {s : State} {d : UnitDraw} (hf : s.fault = 0#8) (ht : s.nextTurn = .execUnit d)
    (hs : s.sleeping = true) (hirq : s.anyIrq = false) : step s = .next s.drawn := by
  have hpend : s.irqTick = false ∧ s.irqI2c = false ∧ s.irqOther = false := by
    simpa [State.anyIrq, and_assoc] using hirq
  exact (engineHasNoStepWhileWaiting s d).2 hf ht hs (.inr hpend)

/-- Settles O43, by whose turn it is: the halted unit has no step, the controller waits for no command, and a timer or
another device fires. -/
theorem quiescentUntilDeviceFires : Obligations.QuiescentUntilDeviceFires := by
  unfold Obligations.QuiescentUntilDeviceFires
  intro s t hq hstep
  obtain ⟨hf, -, -, hs, hirq, hwait, -, -⟩ := (quiescent_iff s).1 hq
  cases ht : s.nextTurn with
  | execUnit d =>
    rw [step_of_sleeping hf ht hs hirq] at hstep
    cases hstep
    exact .inl rfl
  | tickTimer =>
    rw [step_of_turn hf ht] at hstep
    cases hstep
    exact .inr (.inl ⟨rfl, rfl⟩)
  | otherDevice =>
    rw [step_of_turn hf ht] at hstep
    cases hstep
    exact .inr (.inr ⟨rfl, rfl⟩)
  | controller ev b =>
    have hmay : ¬ controllerMay s ev = true := fun hmay => by
      obtain ⟨hwaits, -⟩ := (controllerMay_iff s ev).1 hmay
      simp [hwait] at hwaits
    rw [step_of_no_report hf ht hmay] at hstep
    cases hstep
    exact .inl rfl

end Sys2Proof.Machine
end
